-- ==== Sys2Proof/Word.lean ====
section
/-!
DEFINITION. The word types of the JR core and the small enumerations that its
encodings name (00_scope.md R3, R10; 30_encoding.md R72, R80, R81).
-/
namespace Sys2Proof

/-- A command word, an event tag, a link byte, a stick sample or a duty value (R10). -/
abbrev Byte := BitVec 8

/-- A 16-bit port value: a distance, or a signed accelerometer sample (R10, R11). -/
abbrev Half := BitVec 16

/-- The bits of an IEEE 754 binary32 value (R9, R15). -/
abbrev F32 := BitVec 32

/-- The node an instance serves, `ROLE` (00_scope.md R3). -/
inductive Role where
  | robot
  | remote
deriving DecidableEq, Repr, Inhabited

/-- The clock instance that `i = arg[0]` selects (30_encoding.md R72). -/
inductive ClockId where
  | mc0
  | mc1
deriving DecidableEq, Repr, Inhabited

/-- A drive motor. -/
inductive Motor where
  | left
  | right
deriving DecidableEq, Repr, Inhabited

/-- The four values of the motor selector `mm = arg[1:0]` (30_encoding.md R72): `00` is RIGHT,
`01` LEFT, and the unrecognised selectors `10` and `11` select LEFT. -/
inductive MotorSel where
  | right
  | left
  | default2
  | default3
deriving DecidableEq, Repr, Inhabited

/-- The reason code that ConfigError records (60_exceptions.md R221). -/
inductive ConfigReason where
  | extEqCentre
  | zeroRange
  | sameSide
deriving DecidableEq, Repr, Inhabited

/-- Which port an 8-bit word arrives on: the command port, an event tag (30_encoding.md R70, R73)
or the serial receiver (R87). -/
inductive Source where
  | cmd
  | evt
  | link
deriving DecidableEq, Repr, Inhabited

/-- The space in which an 8-bit word is read. A link byte has no tag, so its space is the role and
the phase of its receiver (30_encoding.md R87). -/
inductive Space where
  | cmd
  | evt
  | robotRunning
  | robotAwaiting
  | remote
deriving DecidableEq, Repr, Inhabited

end Sys2Proof
end

