-- ==== Sys2Proof/Syntax.lean ====
section
/-!
DEFINITION. The instructions of the JR core: one constructor per row of spec/opcode_table.json, that
is the 12 commands (30_encoding.md R71), the 7 events (R73) and the 6 link byte meanings (R87).
A command's operands are on the operand ports and not in its word (R74).
-/
namespace Sys2Proof

/-- The commands, the events and the link bytes. -/
inductive Instr where
  /-- MC_START i (40_clock.md R100). -/
  | mcStart (i : ClockId)
  /-- MC_STOP i (40_clock.md R101). -/
  | mcStop (i : ClockId)
  /-- MC_RESET i (40_clock.md R102). -/
  | mcReset (i : ClockId)
  /-- MC_READ i (40_clock.md R103). -/
  | mcRead (i : ClockId)
  /-- RANGE, phase 1 (41_range.md R122). -/
  | range
  /-- ENCODE mm (42_encoder.md R150). -/
  | encodeStick (mm : MotorSel)
  /-- SEND_DRIVE mm (42_encoder.md R151). -/
  | sendDrive (mm : MotorSel)
  /-- FAULT_EVAL (43_link.md R183). -/
  | faultEval
  /-- COLL_EVAL (43_link.md R185). -/
  | collEval
  /-- ROBOT_RX_POLL (43_link.md R187). -/
  | robotRxPoll
  /-- REMOTE_RX_POLL (43_link.md R189). -/
  | remoteRxPoll
  /-- CONFIRM_POLL (43_link.md R191). -/
  | confirmPoll
  /-- TICK0, a timer tick of MC0 (40_clock.md R104). -/
  | tick0
  /-- TICK1, a timer tick of MC1 (40_clock.md R104). -/
  | tick1
  /-- ECHO_FALL (41_range.md R121). -/
  | echoFall
  /-- ECHO_RISE (41_range.md R121). -/
  | echoRise
  /-- TX_ACCEPT (43_link.md R182). -/
  | txAccept
  /-- RANGE_SAMPLE, phase 2 of RANGE (41_range.md R123). -/
  | rangeSample
  /-- RESET (70_reset_and_hazards.md R250). -/
  | reset
  /-- DRIVE_BYTE, with `motor_select`, `direction` (true is forward) and `magnitude[7:2]`
  (30_encoding.md R76). -/
  | driveByte (motor : Motor) (forward : Bool) (mag : BitVec 6)
  /-- ACK_1, the acknowledgement '1' at the robot (30_encoding.md R79). -/
  | ack1
  /-- MSG_CLEAR_0, '0' at the remote (30_encoding.md R78). -/
  | msgClear0
  /-- MSG_COLLISION_1, '1' at the remote (30_encoding.md R78). -/
  | msgCollision1
  /-- MSG_OBSTACLE_2, '2' at the remote (30_encoding.md R78). -/
  | msgObstacle2
  /-- MSG_OTHER, any other byte at the remote (30_encoding.md R78). -/
  | msgOther (b : Byte)
deriving DecidableEq, Repr, Inhabited

end Sys2Proof
end

