-- ==== Sys2Proof/Config.lean ====
section
/-!
DEFINITION. What an implementation fixes (00_scope.md R8, R9) and the free values of the model.

The OPEN parameters of R8 are the record `Params`. A state carries its instance's `Params`, so a
theorem about every state holds for every legal value, as R8 asks (assumption log 3).
-/
namespace Sys2Proof

/-- The parameters of one microsecond clock: `MCi_P`, `MCi_N` and `MCi_F` (00_scope.md R8). -/
structure ClockParams where
  prescaler : Nat
  range : Nat
  freq : Nat
deriving DecidableEq, Repr, Inhabited

/-- The calibration constants of one stick axis (00_scope.md R8, 42_encoder.md R140). -/
structure AxisParams where
  zero : Byte
  posExt : Byte
  negExt : Byte
deriving DecidableEq, Repr, Inhabited

/-- The instance parameters that 00_scope.md R8 leaves OPEN. DESIGN CHOICE (log 22): `TRIG_HIGH_US` and
`TRIG_LOW_US` are whole microseconds; R8 gives their bounds and does not say that they are integers. -/
structure Params where
  role : Role
  mc0 : ClockParams
  mc1 : ClockParams
  x : AxisParams
  y : AxisParams
  yZeroOffset : Byte
  trigHighUs : Nat
  trigLowUs : Nat
  distLimit : Half
  accOffX : Half
  accOffY : Half
  accOffZ : Half
  accThr : Half
deriving DecidableEq, Repr, Inhabited

/-- The parameters of clock `i`. -/
def Params.clock (p : Params) : ClockId → ClockParams
  | .mc0 => p.mc0
  | .mc1 => p.mc1

/-- The levels on the input ports during one step (00_scope.md R11). `rx` is `none` where
`rx_avail = 0` and `some rx_data` where it is 1 (43_link.md R181). -/
structure Ports where
  opdX : Byte
  opdY : Byte
  opdD : Half
  opdAx : Half
  opdAy : Half
  opdAz : Half
  rx : Option Byte
  confirm : Bool
deriving DecidableEq, Repr, Inhabited

/-- The ports at rest: every level 0 and no byte offered. -/
def Ports.idle : Ports :=
  { opdX := 0, opdY := 0, opdD := 0, opdAx := 0, opdAy := 0, opdAz := 0, rx := none, confirm := false }

/-- What one step is offered: a word on one of the three ways in, with the levels on the input
ports in that step (20_memory.md R56). -/
structure Stimulus where
  source : Source
  word : Byte
  ports : Ports
deriving DecidableEq, Repr, Inhabited

namespace Config

/-- `OUTPUT_RANGE`, the numerator of every calibration scale (00_scope.md R8). -/
def outputRange : Nat := 254

/-- `OUT_MIN`, added to every mapped value (00_scope.md R8). -/
def outMin : Nat := 1

/-- `THROTTLE_K`, the binary32 nearest 0.7 (00_scope.md R9). -/
def throttleK : F32 := 0x3F333333#32

/-- `STEER_K`, the binary32 nearest 0.3 (00_scope.md R9). -/
def steerK : F32 := 0x3E99999A#32

/-- `CM_PER_US`, the binary32 nearest 0.017 (00_scope.md R9). -/
def cmPerUs : F32 := 0x3C8B4396#32

/-- `BAUD` (00_scope.md R8). No rule of the block depends on it (70_reset_and_hazards.md R270). -/
def baud : Nat := 9600

/-- `FRAME` as data bits, parity bits and stop bits: 8N1 (00_scope.md R8). No rule depends on it. -/
def frame : Nat × Nat × Nat := (8, 0, 1)

/-- Configuration T1 of 95_test_vectors.md, for the node `role`. -/
def t1 (role : Role) : Params :=
  { role := role
    mc0 := { prescaler := 64, range := 256, freq := 16000000 }
    mc1 := { prescaler := 64, range := 256, freq := 16000000 }
    x := { zero := 133, posExt := 0, negExt := 255 }
    y := { zero := 130, posExt := 255, negExt := 0 }
    yZeroOffset := 8
    trigHighUs := 10
    trigLowUs := 2
    distLimit := 30
    accOffX := 0
    accOffY := 0
    accOffZ := 1000
    accThr := 500 }

/-- DESIGN CHOICE (unsafe, log 3): the parameters that `State.reset` carries. The spec leaves them
OPEN; T1 is the one complete configuration that it writes down. -/
def resetParams : Params := t1 .robot

/-- FREE VALUE (log 1): the value on `res` after a command that returns nothing, which 30_encoding.md
R75 calls unspecified; `n` counts such commands. Nothing is known of it. -/
opaque freeRes : Nat → BitVec 64

/-- FREE VALUE (log 4): the stimulus that the environment and the controller choose for a step when
none has been decided yet (20_memory.md R56: every input is a free draw); `n` counts the draws. -/
opaque envDraw : Nat → Stimulus

end Config
end Sys2Proof
end

