-- ==== Sys2Proof/WellFormed.lean ====
section
/-!
DEFINITION. Which instructions and which parameters are well formed.
-/
namespace Sys2Proof

/-- MSG_OTHER stands for a byte that is none of '0', '1' and '2' (30_encoding.md R78); every other
instruction is well formed as its fields' types make it. -/
def Instr.wf : Instr → Bool
  | .msgOther b => b != 0x30 && b != 0x31 && b != 0x32
  | .mcStart _ | .mcStop _ | .mcReset _ | .mcRead _ | .range | .encodeStick _ | .sendDrive _
  | .faultEval | .collEval | .robotRxPoll | .remoteRxPoll | .confirmPoll
  | .tick0 | .tick1 | .echoFall | .echoRise | .txAccept | .rangeSample | .reset
  | .driveByte _ _ _ | .ack1 | .msgClear0 | .msgCollision1 | .msgObstacle2 => true

/-- `MCi_P ≥ 1`, `MCi_N ≥ 2` and `MCi_F ≥ 1` (00_scope.md R8). -/
def ClockParams.wf (c : ClockParams) : Bool :=
  decide (1 ≤ c.prescaler) && decide (2 ≤ c.range) && decide (1 ≤ c.freq)

/-- The legal ranges of 00_scope.md R8 that the fields' types do not give. The legality of the
calibration constants is `Machine.checkCalibration` (42_encoder.md R141). -/
def Params.wf (p : Params) : Bool :=
  p.mc0.wf && p.mc1.wf && decide (10 ≤ p.trigHighUs)

end Sys2Proof
end

