-- ==== Sys2Proof/Decode.lean ====
section
/-!
DEFINITION. The decoder and, after it, the encoder, from 30_encoding.md R70-R73, R76-R79, R82 and
R87. A word means nothing without the space it arrives in: command words, event tags and link bytes
overlap as numbers (assumption log 7).
-/
namespace Sys2Proof

/-- Why a word is rejected. -/
inductive Illegal where
  /-- A reserved command word (30_encoding.md R82). -/
  | reservedCommand (w : Byte)
  /-- An event tag that names no event (30_encoding.md R73). -/
  | unknownEvent (tag : Byte)
deriving DecidableEq, Repr

/-- `op = cmd[7:4]` (30_encoding.md R70). -/
def cmdOp (w : Byte) : BitVec 4 := w.extractLsb' 4 4

/-- `arg = cmd[3:0]` (30_encoding.md R70). -/
def cmdArg (w : Byte) : BitVec 4 := w.extractLsb' 0 4

/-- The clock instance of an argument, none where `arg[3:1] ≠ 000` (30_encoding.md R72). -/
def clockArg (a : BitVec 4) : Option ClockId :=
  match a.toNat with
  | 0 => some .mc0
  | 1 => some .mc1
  | _ => none

/-- The motor selector of an argument, none where `arg[3:2] ≠ 00` (30_encoding.md R72). -/
def motorArg (a : BitVec 4) : Option MotorSel :=
  match a.toNat with
  | 0 => some .right
  | 1 => some .left
  | 2 => some .default2
  | 3 => some .default3
  | _ => none

/-- A command whose argument must be `0000` (30_encoding.md R72). -/
def plainArg (a : BitVec 4) (i : Instr) : Option Instr :=
  if a = 0 then some i else none

/-- The command map of 30_encoding.md R71; none for the reserved words of R82. -/
def commandOf (w : Byte) : Option Instr :=
  let a := cmdArg w
  match (cmdOp w).toNat with
  | 0x1 => (clockArg a).map .mcStart
  | 0x2 => (clockArg a).map .mcStop
  | 0x3 => (clockArg a).map .mcReset
  | 0x4 => (clockArg a).map .mcRead
  | 0x5 => plainArg a .range
  | 0x6 => (motorArg a).map .encodeStick
  | 0x7 => (motorArg a).map .sendDrive
  | 0x8 => plainArg a .faultEval
  | 0x9 => plainArg a .collEval
  | 0xA => plainArg a .robotRxPoll
  | 0xB => plainArg a .remoteRxPoll
  | 0xC => plainArg a .confirmPoll
  | _ => none

/-- The event tags of 30_encoding.md R73. -/
def eventOf (tag : Byte) : Option Instr :=
  match tag.toNat with
  | 0x01 => some .tick0
  | 0x02 => some .tick1
  | 0x10 => some .echoFall
  | 0x11 => some .echoRise
  | 0x20 => some .txAccept
  | 0x30 => some .rangeSample
  | 0xFF => some .reset
  | _ => none

/-- The three fields of any byte read as a drive control byte (30_encoding.md R76, R77). -/
def driveByteOf (b : Byte) : Instr :=
  .driveByte (if b.getLsbD 0 then .left else .right) (b.getLsbD 1) (b.extractLsb' 2 6)

/-- A byte at a robot that waits for the acknowledgement (30_encoding.md R87): 0x31 is the
acknowledgement, and any other byte is a drive byte, which that phase discards. -/
def awaitedByteOf (b : Byte) : Instr :=
  if b = 0x31 then .ack1 else driveByteOf b

/-- A byte at the remote (30_encoding.md R78, R87). -/
def remoteByteOf (b : Byte) : Instr :=
  if b = 0x30 then .msgClear0
  else if b = 0x31 then .msgCollision1
  else if b = 0x32 then .msgObstacle2
  else .msgOther b

/-- The instruction that a word is in a space, or why there is none. -/
def decode (sp : Space) (w : Byte) : Except Illegal Instr :=
  match sp with
  | .cmd => match commandOf w with
    | some i => .ok i
    | none => .error (.reservedCommand w)
  | .evt => match eventOf w with
    | some i => .ok i
    | none => .error (.unknownEvent w)
  | .robotRunning => .ok (driveByteOf w)
  | .robotAwaiting => .ok (awaitedByteOf w)
  | .remote => .ok (remoteByteOf w)

/-- The argument of a clock command (30_encoding.md R72). -/
def clockCode : ClockId → Byte
  | .mc0 => 0
  | .mc1 => 1

/-- The argument of a motor command (30_encoding.md R72). -/
def motorSelCode : MotorSel → Byte
  | .right => 0
  | .left => 1
  | .default2 => 2
  | .default3 => 3

/-- `motor_select` and bit 0 of the drive byte: 1 is left (30_encoding.md R76). -/
def motorBit : Motor → Byte
  | .left => 1
  | .right => 0

/-- The drive control byte `magnitude | (direction << 1) | motor_select`, with the magnitude's six
high bits given (30_encoding.md R76). -/
def driveByteCode (motor : Motor) (forward : Bool) (mag : BitVec 6) : Byte :=
  (mag.zeroExtend 8 <<< 2) ||| (if forward then 2 else 0) ||| motorBit motor

/-- The space and the word of an instruction. -/
def encode : Instr → Space × Byte
  | .mcStart i => (.cmd, 0x10 ||| clockCode i)
  | .mcStop i => (.cmd, 0x20 ||| clockCode i)
  | .mcReset i => (.cmd, 0x30 ||| clockCode i)
  | .mcRead i => (.cmd, 0x40 ||| clockCode i)
  | .range => (.cmd, 0x50)
  | .encodeStick mm => (.cmd, 0x60 ||| motorSelCode mm)
  | .sendDrive mm => (.cmd, 0x70 ||| motorSelCode mm)
  | .faultEval => (.cmd, 0x80)
  | .collEval => (.cmd, 0x90)
  | .robotRxPoll => (.cmd, 0xA0)
  | .remoteRxPoll => (.cmd, 0xB0)
  | .confirmPoll => (.cmd, 0xC0)
  | .tick0 => (.evt, 0x01)
  | .tick1 => (.evt, 0x02)
  | .echoFall => (.evt, 0x10)
  | .echoRise => (.evt, 0x11)
  | .txAccept => (.evt, 0x20)
  | .rangeSample => (.evt, 0x30)
  | .reset => (.evt, 0xFF)
  | .driveByte m f g => (.robotRunning, driveByteCode m f g)
  | .ack1 => (.robotAwaiting, 0x31)
  | .msgClear0 => (.remote, 0x30)
  | .msgCollision1 => (.remote, 0x31)
  | .msgObstacle2 => (.remote, 0x32)
  | .msgOther b => (.remote, b)

/-- The way in for a bare 8-bit number of the opcode table: the first of command port, event tags
and link in which the number is assigned (assumption log 7). -/
def tableSource (w : Byte) : Source :=
  if (commandOf w).isSome then .cmd
  else if (eventOf w).isSome then .evt
  else .link

/-- The node at which a bare link byte of the opcode table is read: '2' is a message to the remote,
and every other byte that reaches this point is a drive byte to the robot (assumption log 7). -/
def tableLinkRole (w : Byte) : Role :=
  if w = 0x32 then .remote else .robot

/-- The space that `tableSource` and `tableLinkRole` choose for a bare number. -/
def tableSpace (w : Byte) : Space :=
  match tableSource w with
  | .cmd => .cmd
  | .evt => .evt
  | .link => match tableLinkRole w with
    | .remote => .remote
    | .robot => .robotRunning

/-- The instruction of a bare number of the opcode table; every instruction is one byte
(30_encoding.md R84). -/
def decodeTableWord (nbits w : Nat) : Option Instr :=
  if nbits ≤ 8 && decide (w < 256) then
    match decode (tableSpace (BitVec.ofNat 8 w)) (BitVec.ofNat 8 w) with
    | .ok i => some i
    | .error _ => none
  else none

end Sys2Proof
end

