-- ==== Sys2Proof/Machine/Float32.lean ====
section
/-!
DEFINITION. IEEE 754 binary32 arithmetic on non-negative values, round to nearest, ties to even
(00_scope.md R15). Every value the block computes is finite and not negative, so the sign bit is
read as 0 and an all-ones exponent is read like any other; no state that the block reaches holds
either. Every binary32 value is a whole number of units of 2^-149, so a value is carried as that
whole number.
-/
namespace Sys2Proof.Machine

/-- The units of 2^-149 in one. -/
def f32One : Nat := 2 ^ 149

/-- The biased exponent field of a binary32 value. -/
def f32Exponent (f : F32) : Nat := (f.extractLsb' 23 8).toNat

/-- The fraction field of a binary32 value. -/
def f32Fraction (f : F32) : Nat := (f.extractLsb' 0 23).toNat

/-- The value of a binary32 pattern, in units of 2^-149. -/
def f32Units (f : F32) : Nat :=
  if f32Exponent f = 0 then f32Fraction f
  else (2 ^ 23 + f32Fraction f) * 2 ^ (f32Exponent f - 1)

/-- The whole number nearest `n / d`, ties to even. -/
def roundHalfEven (n d : Nat) : Nat :=
  let q := n / d
  let r := n % d
  if d < 2 * r || (2 * r == d && q % 2 == 1) then q + 1 else q

/-- The exponent step (0 for subnormals and the first binade) of the binade that holds `n / d` units,
where a binade of step `k` holds the values from 2^(23+k) up to 2^(24+k) units. -/
def f32Step (n d : Nat) : Nat := Nat.log2 (n / d) - 23

/-- `fl32` of the rational `n / d` units of 2^-149 (00_scope.md R15). A value at or past the largest
finite one plus half its step becomes infinity, as IEEE 754 rounds; no value of the block does. -/
def f32OfUnits (n d : Nat) : F32 :=
  let k := f32Step n d
  let bits := k * 2 ^ 23 + roundHalfEven n (d * 2 ^ k)
  BitVec.ofNat 32 (min bits 0x7F800000)

/-- `fl32(q)` of the rational `q = n / d` (00_scope.md R15). -/
def fl32 (n d : Nat) : F32 := f32OfUnits (n * f32One) d

/-- `fl32` of a whole number. -/
def f32OfNat (n : Nat) : F32 := fl32 n 1

/-- `a ⊗ b` (00_scope.md R15). -/
def f32Mul (a b : F32) : F32 := f32OfUnits (f32Units a * f32Units b) f32One

/-- `a ⊕ b` (00_scope.md R15). -/
def f32Add (a b : F32) : F32 := f32OfUnits (f32Units a + f32Units b) 1

/-- `a ⊘ b` (00_scope.md R15). -/
def f32Div (a b : F32) : F32 := f32OfUnits (f32Units a * f32One) (f32Units b)

/-- `trunc(f)`: the integer part, rounded toward zero (00_scope.md R15). -/
def f32Trunc (f : F32) : Nat := f32Units f / f32One

/-- `sat8(n) = min(n, 255)` (00_scope.md R15). -/
def sat8 (n : Nat) : Nat := min n 255

/-- `sat16(n) = min(n, 65535)` (00_scope.md R15). -/
def sat16 (n : Nat) : Nat := min n 65535

/-- `q4(n) = n & 0xFC` (00_scope.md R15). -/
def q4 (n : Nat) : Byte := BitVec.ofNat 8 n &&& 0xFC

end Sys2Proof.Machine
end

