-- ==== Sys2Proof/Machine/Calibrate.lean ====
section
/-!
DEFINITION. The axis calibrator: legality of the calibration constants (42_encoder.md R141), the
calibration of one direction (R142) and the calibration file that reset loads (10_state.md R31).
-/
namespace Sys2Proof.Machine

/-- One record of the calibration file (10_state.md R31). -/
structure CalRecord where
  min : Byte
  max : Byte
  range : Byte
  scale : F32
deriving DecidableEq, Repr, Inhabited

/-- The calibration file `CAL` (10_state.md R31). -/
structure CalFile where
  xNeg : CalRecord
  xPos : CalRecord
  yNeg : CalRecord
  yPos : CalRecord
deriving DecidableEq, Repr, Inhabited

/-- `|a - b|` of two whole numbers. -/
def absDiff (a b : Nat) : Nat := (a - b) + (b - a)

/-- A record of zeros. -/
def blankRecord : CalRecord := { min := 0, max := 0, range := 0, scale := 0 }

/-- DESIGN CHOICE (log 6): the file of a ROBOT whose constants do not calibrate; nothing reads it. -/
def blankFile : CalFile :=
  { xNeg := blankRecord, xPos := blankRecord, yNeg := blankRecord, yPos := blankRecord }

/-- The sample one step from the centre `z` toward the extreme `e` (42_encoder.md R142). -/
def calMin (z e : Byte) : Byte := if z < e then z + 1 else z - 1

/-- The record of one direction, with the scale `fl32(OUTPUT_RANGE) ⊘ RANGE` (42_encoder.md R142). -/
def calRecord (z e : Byte) : CalRecord :=
  let mn := calMin z e
  let rg := absDiff e.toNat mn.toNat
  { min := mn
    max := e
    range := BitVec.ofNat 8 rg
    scale := f32Div (f32OfNat Config.outputRange) (f32OfNat rg) }

/-- `cal(z, e)` with its two errors (42_encoder.md R142). -/
def cal (z e : Byte) : Except ConfigReason CalRecord :=
  if e = z then .error .extEqCentre
  else if absDiff e.toNat (calMin z e).toNat = 0 then .error .zeroRange
  else .ok (calRecord z e)

/-- The first condition of 42_encoder.md R141 that one axis breaks, in the rule's order. -/
def checkAxis (a : AxisParams) : Option ConfigReason :=
  if a.posExt = a.zero ∨ a.negExt = a.zero then some .extEqCentre
  else if absDiff a.posExt.toNat a.zero.toNat < 2 ∨ absDiff a.negExt.toNat a.zero.toNat < 2 then
    some .zeroRange
  else if 0 ≤ ((a.posExt.toNat : Int) - a.zero.toNat) * ((a.negExt.toNat : Int) - a.zero.toNat) then
    some .sameSide
  else none

/-- The first broken condition of 42_encoder.md R141, X before Y (assumption log 8). -/
def checkCalibration (p : Params) : Option ConfigReason :=
  match checkAxis p.x with
  | some r => some r
  | none => checkAxis p.y

/-- The four records of 42_encoder.md R142, each by `cal` with its errors, in the order of
70_reset_and_hazards.md R251. -/
def calibrateRecords (p : Params) : Except ConfigReason CalFile := do
  let xPos ← cal p.x.zero p.x.posExt
  let xNeg ← cal p.x.zero p.x.negExt
  let yPos ← cal p.y.zero p.y.posExt
  let yNeg ← cal p.y.zero p.y.negExt
  return { xNeg := xNeg, xPos := xPos, yNeg := yNeg, yPos := yPos }

/-- The calibration that reset runs: R141's checks first, then the records
(70_reset_and_hazards.md R251). -/
def calibrate (p : Params) : Except ConfigReason CalFile :=
  match checkCalibration p with
  | some r => .error r
  | none => calibrateRecords p

/-- The calibration file after reset where the configuration is not refused. -/
def resetCal (p : Params) : CalFile :=
  match calibrate p with
  | .ok c => c
  | .error _ => blankFile

end Sys2Proof.Machine

namespace Sys2Proof

/-- Why an instance with these parameters is not built, if it is not: a REMOTE whose constants break
42_encoder.md R141 (60_exceptions.md R221). A ROBOT is always built (assumption log 6). -/
def Params.configRefusal (p : Params) : Option ConfigReason :=
  match p.role with
  | .robot => none
  | .remote => Machine.checkCalibration p

end Sys2Proof
end

