-- ==== Sys2Proof/Machine/State.lean ====
section
/-!
DEFINITION. The state of one JR core instance (10_state.md), as plain data, and its value after reset
(70_reset_and_hazards.md R250). The block has no memory, no program counter and no register file
(20_memory.md R50, 10_state.md R20, R21), so State holds none.
-/
namespace Sys2Proof.Machine

/-- One microsecond clock: `RUN`, `OVF` and `CNT` (10_state.md R22). `CNT` ranges over
`0 .. MCi_N - 1` for an OPEN `MCi_N`, so it is a number and its bound is part of the invariant. -/
structure Clock where
  run : Bool
  ovf : BitVec 64
  cnt : Nat
deriving DecidableEq, Repr, Inhabited

/-- The actuator direction signal `DIRSIG` (30_encoding.md R80). -/
inductive DirSignal where
  | reverse
  | forward
  | neutral
deriving DecidableEq, Repr, Inhabited

/-- One actuator register `{DIRSIG, DUTY}` (10_state.md R28). -/
structure Actuator where
  dirsig : DirSignal
  duty : Byte
deriving DecidableEq, Repr, Inhabited

/-- The robot's handshake state `HS` (10_state.md R27): 0 is Running, 1 AwaitingCollisionAck. -/
inductive Handshake where
  | running
  | awaitingAck
deriving DecidableEq, Repr, Inhabited

/-- The remote's confirmation latch `RFSM` (10_state.md R29): 0 is IDLE, 1 LATCHED. -/
inductive Latch where
  | idle
  | latched
deriving DecidableEq, Repr, Inhabited

/-- The display indication `DISP` (10_state.md R30, 30_encoding.md R81). -/
inductive Display where
  | clear
  | collision
  | obstacle
  | commError
deriving DecidableEq, Repr, Inhabited

/-- An event of the output history `H` (10_state.md R33). -/
inductive OutEvent where
  | tx (b : Byte)
  | trigPulse
deriving DecidableEq, Repr, Inhabited

/-- The actuator at neutral (10_state.md R28). -/
def neutralActuator : Actuator := { dirsig := .neutral, duty := 0 }

/-- A clock as reset leaves it (10_state.md R22). -/
def stoppedClock : Clock := { run := false, ovf := 0, cnt := 0 }

/-- The machine. The first group is the instance's parameters, the second the block's state
(10_state.md R35), the third its ports (00_scope.md R11) and the fourth the model's own fields. -/
structure State where
  /-- The instance parameters, OPEN in the spec (00_scope.md R8); no step writes them. -/
  params : Params
  /-- MC0, the ranging clock (R22). -/
  mc0 : Clock
  /-- MC1, the second clock (R22). -/
  mc1 : Clock
  /-- `ECHO_LVL` (R24). -/
  echoLvl : Bool
  /-- `TRIG`, the trigger line (R24). -/
  trig : Bool
  /-- `DIR`, the encoder's held direction: true is forward (R25). -/
  dir : Bool
  /-- `CAL` (R31). -/
  cal : CalFile
  /-- `OBS`, the obstacle flag (R26). -/
  obs : Bool
  /-- `HS` (R27). -/
  hs : Handshake
  /-- `ACT[L]` (R28). -/
  actL : Actuator
  /-- `ACT[R]` (R28). -/
  actR : Actuator
  /-- `RFSM` (R29). -/
  rfsm : Latch
  /-- `DISP` (R30). -/
  disp : Display
  /-- `TXP`: the byte awaiting the transmitter, if any (R32). -/
  txp : Option Byte
  /-- `RNGP`: RANGE has pulsed and not yet sampled (R32). -/
  rngp : Bool
  /-- `H`, oldest event first (R33). -/
  hist : List OutEvent
  /-- The `res` port (30_encoding.md R75). -/
  res : BitVec 64
  /-- The `rx_take` port in the last step (43_link.md R181). -/
  rxTake : Bool
  /-- The levels on the input ports (10_state.md R34). -/
  ports : Ports
  /-- The model's own: stimuli already decided, the next one first (log 4). -/
  pending : List Stimulus
  /-- The model's own: the index of the environment's next free draw (log 4). -/
  drawIdx : Nat
  /-- The model's own: the index of the next unspecified value of `res` (log 1). -/
  freeIdx : Nat
deriving DecidableEq, Repr, Inhabited

/-- Why the machine stops with an error. -/
inductive Fault where
  /-- ConfigError, with its reason code: raised by RESET in a REMOTE instance whose constants break
  42_encoder.md R141 (60_exceptions.md R221). Safe: the spec refuses the configuration. -/
  | configError (reason : ConfigReason)
deriving DecidableEq, Repr

/-- Why a step is not allowed. -/
inductive Refusal where
  /-- An arm of `exec` without a meaning; no arm uses it. Safe. -/
  | notModelled (mnemonic : String)
  /-- The decoder, for a reserved command word (30_encoding.md R82, 60_exceptions.md R222). Safe: the
  spec leaves the response open and says a model refuses. -/
  | reservedCommand (w : Byte)
  /-- The decoder, for an event tag that names no event (30_encoding.md R73). Safe: no such event
  exists. -/
  | unknownEvent (tag : Byte)
  /-- Any command or link byte of the other role (30_encoding.md R83). Safe: the spec says it is
  reserved in this instance. -/
  | wrongRole
  /-- Any command offered while TXP is valid or RNGP is 1 (70_reset_and_hazards.md R260). Safe: the
  spec says a model refuses it. -/
  | commandDuringHold
  /-- TX_ACCEPT without a pending byte (43_link.md R182) and RANGE_SAMPLE without a pending range
  (41_range.md R123). Safe: the spec enables the event only then. -/
  | eventNotEnabled
  /-- The step, for any instruction but RESET in a state whose configuration is refused. Safe: the spec
  says that such an instance has no state and must not be run (60_exceptions.md R221, log 20). -/
  | configurationRefused (reason : ConfigReason)
  /-- The two-node system of System.lean, never `step`: a channel move that CH_MODEL does not allow
  (20_memory.md R62). Safe: the move does not exist. -/
  | channelForbids
deriving DecidableEq, Repr

/-- The outcome of a step of this machine. -/
abbrev StepOutcome := Host.Outcome State Fault Refusal

/-- The fields right after reset of an instance with parameters `p` (70_reset_and_hazards.md R250,
10_state.md R35). An instance has this state only where `State.build` answers it. `res`, `rx_take`, the input ports and the model's fields are values the spec does
not give (log 2, log 4). -/
def State.resetOf (p : Params) : State :=
  { params := p
    mc0 := stoppedClock
    mc1 := stoppedClock
    echoLvl := false
    trig := false
    dir := false
    cal := resetCal p
    obs := false
    hs := .running
    actL := neutralActuator
    actR := neutralActuator
    rfsm := .idle
    disp := .clear
    txp := none
    rngp := false
    hist := []
    res := 0
    rxTake := false
    ports := Ports.idle
    pending := []
    drawIdx := 0
    freeIdx := 0 }

/-- The instance with parameters `p` right after its first reset, or the ConfigError that refuses it: a
refused configuration is not built and has no state (60_exceptions.md R221). -/
def State.build (p : Params) : Except ConfigReason State :=
  match p.configRefusal with
  | some r => .error r
  | none => .ok (State.resetOf p)

/-- The machine right after reset, with the parameters that `Config.resetParams` names (log 3). -/
def State.reset : State := State.resetOf Config.resetParams

end Sys2Proof.Machine
end

