-- ==== Sys2Proof/Machine/Operands.lean ====
section
/-!
DEFINITION. Operand assembly (30_encoding.md R74), result packing (R75), the drive byte's fields
(R76), the message bytes (R78, R79) and the codes on the output ports (R80, R81).
-/
namespace Sys2Proof.Machine

/-- `x = opd_x`, zero-extended (30_encoding.md R74). -/
def State.opdX (s : State) : Nat := s.ports.opdX.toNat

/-- `y = opd_y`, zero-extended (30_encoding.md R74). -/
def State.opdY (s : State) : Nat := s.ports.opdY.toNat

/-- `d = opd_d`, zero-extended (30_encoding.md R74). -/
def State.opdD (s : State) : Nat := s.ports.opdD.toNat

/-- `ax = opd_ax`, sign-extended (30_encoding.md R74). -/
def State.opdAx (s : State) : Int := s.ports.opdAx.toInt

/-- `ay = opd_ay`, sign-extended (30_encoding.md R74). -/
def State.opdAy (s : State) : Int := s.ports.opdAy.toInt

/-- `az = opd_az`, sign-extended (30_encoding.md R74). -/
def State.opdAz (s : State) : Int := s.ports.opdAz.toInt

/-- The motor that a selector names (30_encoding.md R72). -/
def selectedMotor : MotorSel → Motor
  | .right => .right
  | .left | .default2 | .default3 => .left

/-- A byte result on `res`, zero-extended (30_encoding.md R75). -/
def byteResult (b : Byte) : BitVec 64 := b.zeroExtend 64

/-- The result of a receive poll: `0x100 | b` for a consumed byte and 0 for none (43_link.md R181). -/
def pollResult : Option Byte → BitVec 64
  | none => 0
  | some b => 0x100 ||| b.zeroExtend 64

/-- `motor_select` of a received drive byte (30_encoding.md R76). -/
def driveMotor (b : Byte) : Motor := if b.getLsbD 0 then .left else .right

/-- The direction signal of a received drive byte (43_link.md R187). -/
def driveSignal (b : Byte) : DirSignal := if b.getLsbD 1 then .forward else .reverse

/-- The duty of a received drive byte, `b & 0xFC` (43_link.md R187). -/
def driveDuty (b : Byte) : Byte := b &&& 0xFC

/-- The actuator command in a received drive byte (43_link.md R187). -/
def driveActuator (b : Byte) : Actuator := { dirsig := driveSignal b, duty := driveDuty b }

/-- The drive byte `mag | (DIR << 1) | msel` that the encoder emits (42_encoder.md R150). -/
def packDrive (mag : Byte) (dir : Bool) (m : Motor) : Byte :=
  mag ||| (if dir then 2 else 0) ||| motorBit m

/-- '0', clear (30_encoding.md R78). -/
def msgClear : Byte := 0x30

/-- '1', collision detected, and the acknowledgement (30_encoding.md R78, R79). -/
def msgCollision : Byte := 0x31

/-- '2', obstacle ahead (30_encoding.md R78). -/
def msgObstacle : Byte := 0x32

/-- The code of DIRSIG on `act_dir_L` and `act_dir_R` (30_encoding.md R80). -/
def DirSignal.code : DirSignal → BitVec 2
  | .reverse => 0
  | .forward => 1
  | .neutral => 2

/-- The code of DISP on the `disp` port (30_encoding.md R81). -/
def Display.code : Display → BitVec 2
  | .clear => 0
  | .collision => 1
  | .obstacle => 2
  | .commError => 3

/-- The `HS` bit (10_state.md R27). -/
def Handshake.code : Handshake → BitVec 1
  | .running => 0
  | .awaitingAck => 1

/-- The `RFSM` bit (10_state.md R29). -/
def Latch.code : Latch → BitVec 1
  | .idle => 0
  | .latched => 1

/-- The actuator register of a motor (10_state.md R28). -/
def State.act (s : State) : Motor → Actuator
  | .left => s.actL
  | .right => s.actR

/-- The `tx_valid` port (00_scope.md R11). -/
def State.txValid (s : State) : Bool := s.txp.isSome

/-- The `act_dir_*` port of a motor (00_scope.md R11). -/
def State.actDirPort (s : State) (m : Motor) : BitVec 2 := (s.act m).dirsig.code

/-- The `act_duty_*` port of a motor (00_scope.md R11). -/
def State.actDutyPort (s : State) (m : Motor) : Byte := (s.act m).duty

/-- The `disp` port (00_scope.md R11). -/
def State.dispPort (s : State) : BitVec 2 := s.disp.code

/-- The `trig` port (00_scope.md R11). -/
def State.trigPort (s : State) : BitVec 1 := if s.trig then 1 else 0

end Sys2Proof.Machine
end

