-- ==== Sys2Proof/Machine/Flags.lean ====
section
/-!
DEFINITION. The JR core's flags are its 1-bit state fields DIR, OBS, HS and RFSM (00_scope.md R16);
no operation has condition codes. Here stand the conditions that decide them.
-/
namespace Sys2Proof.Machine

/-- The calibrated side of a stick sample; `centre` is CENTRE on X and NEUTRAL on Y
(42_encoder.md R143). -/
inductive Side where
  | centre
  | pos
  | neg
deriving DecidableEq, Repr, Inhabited

/-- Whether `v` lies on the same side of `zero` as `ext` (42_encoder.md R143). -/
def sameSign (v zero ext : Byte) : Bool :=
  ((v.toNat : Int) - zero.toNat).sign == ((ext.toNat : Int) - zero.toNat).sign

/-- `side_X` (42_encoder.md R143); X has no dead-zone. -/
def sideX (p : Params) (x : Byte) : Side :=
  if x = p.x.zero then .centre
  else if sameSign x p.x.zero p.x.posExt then .pos
  else .neg

/-- `side_Y` (42_encoder.md R143), with the inclusive dead-zone. -/
def sideY (p : Params) (y : Byte) : Side :=
  if absDiff y.toNat p.y.zero.toNat ≤ p.yZeroOffset.toNat then .centre
  else if sameSign y p.y.zero p.y.posExt then .pos
  else .neg

/-- DIR after an encode of the sample `y` (42_encoder.md R150): kept when Y is neutral. -/
def nextDir (p : Params) (y : Byte) (dir : Bool) : Bool :=
  match sideY p y with
  | .pos => true
  | .neg => false
  | .centre => dir

/-- Whether a distance is an obstacle, `d < DIST_LIMIT` (43_link.md R183). -/
def belowLimit (p : Params) (d : Nat) : Bool := decide (d < p.distLimit.toNat)

/-- One axis of the collision predicate, in exact integers (43_link.md R186). -/
def deviates (a off : Int) (thr : Nat) : Bool := decide (thr < (a - off).natAbs)

/-- The collision predicate `coll(ax, ay, az)` (43_link.md R186). -/
def collides (p : Params) (ax ay az : Int) : Bool :=
  deviates ax p.accOffX.toInt p.accThr.toNat || deviates ay p.accOffY.toInt p.accThr.toNat
    || deviates az p.accOffZ.toInt p.accThr.toNat

end Sys2Proof.Machine
end

