-- ==== Sys2Proof/Machine/Ops.lean ====
section
/-!
DEFINITION. The shared operations on the state. The block has no memory to read or write
(20_memory.md R50) and takes no exception and returns from none (60_exceptions.md R225, R226); its one
error is `raiseConfigError`.
-/
namespace Sys2Proof.Machine

/-- MC_START on one clock (40_clock.md R100). -/
def Clock.start (c : Clock) : Clock := { c with run := true }

/-- MC_STOP on one clock (40_clock.md R101). -/
def Clock.stop (c : Clock) : Clock := { c with run := false }

/-- MC_RESET on one clock (40_clock.md R102). -/
def Clock.clear (_ : Clock) : Clock := stoppedClock

/-- One timer tick of a clock of range `n` (40_clock.md R104). -/
def Clock.tick (n : Nat) (c : Clock) : Clock :=
  if c.run then
    if c.cnt + 1 = n then { c with cnt := 0, ovf := c.ovf + 1 }
    else { c with cnt := c.cnt + 1 }
  else c

/-- The ticks a clock has counted, `OVF * N + CNT` (40_clock.md R105). -/
def Clock.count (n : Nat) (c : Clock) : Nat := c.ovf.toNat * n + c.cnt

/-- The elapsed microseconds before the reduction modulo 2^64: exact, with one floor
(40_clock.md R105). -/
def Clock.exactMicros (p : ClockParams) (c : Clock) : Nat :=
  c.count p.range * p.prescaler * 1000000 / p.freq

/-- `elapsed(i)` (40_clock.md R105). -/
def Clock.elapsed (p : ClockParams) (c : Clock) : BitVec 64 := BitVec.ofNat 64 (c.exactMicros p)

/-- The clock instance `i`. -/
def State.mc (s : State) : ClockId → Clock
  | .mc0 => s.mc0
  | .mc1 => s.mc1

/-- The state with clock instance `i` replaced; the other is untouched (40_clock.md R108). -/
def State.setMc (s : State) (i : ClockId) (c : Clock) : State :=
  match i with
  | .mc0 => { s with mc0 := c }
  | .mc1 => { s with mc1 := c }

/-- `elapsed(i)` of the state's clock `i`. -/
def State.elapsed (s : State) (i : ClockId) : BitVec 64 := (s.mc i).elapsed (s.params.clock i)

/-- A result on `res` (30_encoding.md R75). -/
def State.returns (s : State) (v : BitVec 64) : State := { s with res := v }

/-- The end of a command that returns nothing: `res` is unspecified (30_encoding.md R75), a free value
(log 1). -/
def State.returnsNothing (s : State) : State :=
  { s with res := Config.freeRes s.freeIdx, freeIdx := s.freeIdx + 1 }

/-- `Transmit(b)` (43_link.md R180). -/
def State.transmit (s : State) (b : Byte) : State := { s with txp := some b }

/-- An event appended to the output history (10_state.md R33). -/
def State.emit (s : State) (e : OutEvent) : State := { s with hist := s.hist ++ [e] }

/-- `rx_take` for this step: the offered byte is consumed (43_link.md R181). -/
def State.takeByte (s : State) : State :=
  { s with rxTake := true, ports := { s.ports with rx := none } }

/-- The actuator register of one motor, written (10_state.md R28). -/
def State.setAct (s : State) (m : Motor) (a : Actuator) : State :=
  match m with
  | .left => { s with actL := a }
  | .right => { s with actR := a }

/-- Both actuators to neutral (43_link.md R185). -/
def State.stopMotors (s : State) : State :=
  { s with actL := neutralActuator, actR := neutralActuator }

/-- The controller is held: TXP is valid or RNGP is 1 (10_state.md R32, 70_reset_and_hazards.md R260). -/
def State.held (s : State) : Bool := s.txp.isSome || s.rngp

/-- Why a command that belongs to `need` (both roles for none) may not be issued, if it may not:
30_encoding.md R83 first, then 70_reset_and_hazards.md R260. -/
def issueRefusal (need : Option Role) (s : State) : Option Refusal :=
  match need with
  | none => if s.held then some .commandDuringHold else none
  | some r =>
    if s.params.role = r then
      if s.held then some .commandDuringHold else none
    else some .wrongRole

/-- A command: refused if it may not be issued, and otherwise one atomic step with the effect given
(20_memory.md R53). -/
def command (need : Option Role) (s : State) (effect : State → State) : StepOutcome :=
  match issueRefusal need s with
  | some r => .refused r
  | none => .next (effect s)

/-- An event that the block or its environment may raise only where `enabled` holds. -/
def eventWhen (enabled : Bool) (s : State) (effect : State → State) : StepOutcome :=
  if enabled then .next (effect s) else .refused .eventNotEnabled

/-- `raise ConfigError(reason)` (60_exceptions.md R221). -/
def raiseConfigError (r : ConfigReason) : StepOutcome := .fault (.configError r)

/-- The space in which a word from `src` is read by this node in its phase (30_encoding.md R87). -/
def State.spaceOf (s : State) : Source → Space
  | .cmd => .cmd
  | .evt => .evt
  | .link =>
    match s.params.role, s.hs with
    | .remote, _ => .remote
    | .robot, .running => .robotRunning
    | .robot, .awaitingAck => .robotAwaiting

end Sys2Proof.Machine
end

