-- ==== Sys2Proof/Machine/Clock.lean ====
section
/-!
DEFINITION. The microsecond clock commands and the timer ticks (40_clock.md).
-/
namespace Sys2Proof.Machine

/-- MC_START i (40_clock.md R100). -/
def mcStartEffect (i : ClockId) (s : State) : State := (s.setMc i (s.mc i).start).returnsNothing

/-- MC_START i (40_clock.md R100). -/
def execMcStart (i : ClockId) (s : State) : StepOutcome := command none s (mcStartEffect i)

/-- MC_STOP i (40_clock.md R101). -/
def mcStopEffect (i : ClockId) (s : State) : State := (s.setMc i (s.mc i).stop).returnsNothing

/-- MC_STOP i (40_clock.md R101). -/
def execMcStop (i : ClockId) (s : State) : StepOutcome := command none s (mcStopEffect i)

/-- MC_RESET i (40_clock.md R102). -/
def mcResetEffect (i : ClockId) (s : State) : State := (s.setMc i (s.mc i).clear).returnsNothing

/-- MC_RESET i (40_clock.md R102). -/
def execMcReset (i : ClockId) (s : State) : StepOutcome := command none s (mcResetEffect i)

/-- MC_READ i (40_clock.md R103): OVF and CNT are read in this one step. -/
def mcReadEffect (i : ClockId) (s : State) : State := s.returns (s.elapsed i)

/-- MC_READ i (40_clock.md R103). -/
def execMcRead (i : ClockId) (s : State) : StepOutcome := command none s (mcReadEffect i)

/-- A timer tick of clock `i` (40_clock.md R104). -/
def tickEffect (i : ClockId) (s : State) : State :=
  s.setMc i ((s.mc i).tick (s.params.clock i).range)

/-- TICK0 (40_clock.md R104). -/
def execTick0 (s : State) : StepOutcome := .next (tickEffect .mc0 s)

/-- TICK1 (40_clock.md R104). -/
def execTick1 (s : State) : StepOutcome := .next (tickEffect .mc1 s)

end Sys2Proof.Machine
end

