-- ==== Sys2Proof/Machine/Encoder.lean ====
section
/-!
DEFINITION. The stick encoder (42_encoder.md): axis mapping, steering blend, ENCODE and SEND_DRIVE.
Every mapped value is computed in binary32, truncated, saturated to 8 bits and only then masked
(42_encoder.md R148).
-/
namespace Sys2Proof.Machine

/-- `OUT_MIN ⊕ (SCALE ⊗ |v - MIN|)` (42_encoder.md R144, R145). -/
def mappedValue (c : CalRecord) (v : Byte) : F32 :=
  f32Add (f32OfNat Config.outMin) (f32Mul c.scale (f32OfNat (absDiff v.toNat c.min.toNat)))

/-- Mapped X on a calibrated side (42_encoder.md R144). -/
def mapXRecord (c : CalRecord) (x : Byte) : Byte := q4 (sat8 (f32Trunc (mappedValue c x)))

/-- Mapped Y on a calibrated side (42_encoder.md R145). -/
def mapYRecord (c : CalRecord) (y : Byte) : Byte :=
  q4 (sat8 (f32Trunc (f32Mul (mappedValue c y) Config.throttleK)))

/-- `mapx(x)` (42_encoder.md R144). -/
def mapX (p : Params) (c : CalFile) (x : Byte) : Byte :=
  match sideX p x with
  | .centre => 0
  | .pos => mapXRecord c.xPos x
  | .neg => mapXRecord c.xNeg x

/-- `mapy(y)` (42_encoder.md R145). -/
def mapY (p : Params) (c : CalFile) (y : Byte) : Byte :=
  match sideY p y with
  | .centre => 0
  | .pos => mapYRecord c.yPos y
  | .neg => mapYRecord c.yNeg y

/-- `reduces(motor, sx)`: the stick is pushed toward the motor's own side (42_encoder.md R146). -/
def reduces : Motor → Side → Bool
  | .left, .neg => true
  | .right, .pos => true
  | .left, .centre | .left, .pos | .right, .centre | .right, .neg => false

/-- `xadj(mx)` (42_encoder.md R146). -/
def steerReduction (mx : Byte) : Byte := q4 (f32Trunc (f32Mul (f32OfNat mx.toNat) Config.steerK))

/-- `blend(x, y, motor)` (42_encoder.md R147). The subtraction on Nat stops at 0, which is the rule's
`max(.., 0)` of the signed difference. -/
def blend (p : Params) (c : CalFile) (x y : Byte) (m : Motor) : Byte :=
  if sideY p y = .centre then 0
  else if reduces m (sideX p x) then
    BitVec.ofNat 8 ((mapY p c y).toNat - (steerReduction (mapX p c x)).toNat)
  else mapY p c y

/-- The drive byte that ENCODE computes, with DIR already updated (42_encoder.md R150). -/
def encodedByte (p : Params) (c : CalFile) (dir : Bool) (x y : Byte) (m : Motor) : Byte :=
  packDrive (blend p c x y m) (nextDir p y dir) m

/-- The drive byte of this state's samples for a motor selector (42_encoder.md R150). -/
def State.driveByte (s : State) (mm : MotorSel) : Byte :=
  encodedByte s.params s.cal s.dir s.ports.opdX s.ports.opdY (selectedMotor mm)

/-- DIR after this state's samples are encoded (42_encoder.md R150). -/
def State.encodedDir (s : State) : Bool := nextDir s.params s.ports.opdY s.dir

/-- ENCODE mm (42_encoder.md R150). -/
def encodeEffect (mm : MotorSel) (s : State) : State :=
  { s with dir := s.encodedDir, res := byteResult (s.driveByte mm) }

/-- ENCODE mm (42_encoder.md R150); legal in both RFSM states. -/
def execEncode (mm : MotorSel) (s : State) : StepOutcome := command (some .remote) s (encodeEffect mm)

/-- SEND_DRIVE mm (42_encoder.md R151): no effect while the remote is LATCHED. -/
def sendDriveEffect (mm : MotorSel) (s : State) : State :=
  match s.rfsm with
  | .latched => s.returnsNothing
  | .idle => (encodeEffect mm s).transmit (s.driveByte mm)

/-- SEND_DRIVE mm (42_encoder.md R151). -/
def execSendDrive (mm : MotorSel) (s : State) : StepOutcome :=
  command (some .remote) s (sendDriveEffect mm)

end Sys2Proof.Machine
end

