-- ==== Sys2Proof/Machine/Link.lean ====
section
/-!
DEFINITION. The link family (43_link.md): the robot's fault signaller, collision detector and receive
side, the remote's fault decoder and confirmation latch, the transmitter's acceptance, and the six
link byte meanings. A link byte takes effect only when a receive poll consumes it, so its meaning is
that poll with the byte offered (assumption log 5).
-/
namespace Sys2Proof.Machine

/-- FAULT_EVAL (43_link.md R183). -/
def faultEvalEffect (s : State) : State :=
  match s.hs with
  | .awaitingAck => s.returnsNothing
  | .running =>
    if belowLimit s.params s.opdD && !s.obs then
      ({ s with obs := true }.transmit msgObstacle).returnsNothing
    else if !belowLimit s.params s.opdD && s.obs then
      ({ s with obs := false }.transmit msgClear).returnsNothing
    else s.returnsNothing

/-- FAULT_EVAL (43_link.md R183). -/
def execFaultEval (s : State) : StepOutcome := command (some .robot) s faultEvalEffect

/-- Entry into the handshake (43_link.md R185): motors to neutral, HS to 1, then '1' sent once. -/
def enterHandshake (s : State) : State :=
  { s.stopMotors with hs := .awaitingAck }.transmit msgCollision

/-- COLL_EVAL (43_link.md R185). -/
def collEvalEffect (s : State) : State :=
  match s.hs with
  | .awaitingAck => s.returnsNothing
  | .running =>
    if collides s.params s.opdAx s.opdAy s.opdAz then (enterHandshake s).returnsNothing
    else s.returnsNothing

/-- COLL_EVAL (43_link.md R185). -/
def execCollEval (s : State) : StepOutcome := command (some .robot) s collEvalEffect

/-- What the robot does with a byte it has consumed (43_link.md R187): in Running any byte is a drive
byte, and in AwaitingCollisionAck 0x31 ends the wait and any other byte is discarded. -/
def robotByte (b : Byte) (s : State) : State :=
  match s.hs with
  | .running => s.setAct (driveMotor b) (driveActuator b)
  | .awaitingAck => if b = msgCollision then { s with hs := .running } else s

/-- The robot's receive poll with the outcome of `Poll()` given (43_link.md R181, R187). -/
def robotReceive (r : Option Byte) (s : State) : State :=
  match r with
  | none => s.returns (pollResult none)
  | some b => (robotByte b s.takeByte).returns (pollResult (some b))

/-- ROBOT_RX_POLL (43_link.md R187): the draw is what the receive port offers. -/
def execRobotRxPoll (s : State) : StepOutcome :=
  command (some .robot) s (robotReceive s.ports.rx)

/-- What the remote does with a byte it has consumed (43_link.md R189). -/
def remoteByte (b : Byte) (s : State) : State :=
  if b = msgClear then { s with disp := .clear }
  else if b = msgCollision then { s with disp := .collision, rfsm := .latched }
  else if b = msgObstacle then { s with disp := .obstacle }
  else { s with disp := .commError }

/-- The remote's receive poll with the outcome of `Poll()` given (43_link.md R181, R189): while
LATCHED nothing is polled or consumed. -/
def remoteReceive (r : Option Byte) (s : State) : State :=
  match s.rfsm with
  | .latched => s.returns (pollResult none)
  | .idle =>
    match r with
    | none => s.returns (pollResult none)
    | some b => (remoteByte b s.takeByte).returns (pollResult (some b))

/-- REMOTE_RX_POLL (43_link.md R189): the draw is what the receive port offers. -/
def execRemoteRxPoll (s : State) : StepOutcome :=
  command (some .remote) s (remoteReceive s.ports.rx)

/-- CONFIRM_POLL (43_link.md R191): the confirm input is sampled as a level. -/
def confirmPollEffect (s : State) : State :=
  match s.rfsm with
  | .idle => s.returnsNothing
  | .latched =>
    if s.ports.confirm then
      ({ s with disp := .clear, rfsm := .idle }.transmit msgCollision).returnsNothing
    else s.returnsNothing

/-- CONFIRM_POLL (43_link.md R191). -/
def execConfirmPoll (s : State) : StepOutcome := command (some .remote) s confirmPollEffect

/-- TX_ACCEPT (43_link.md R182): the pending byte joins the history and leaves TXP. -/
def txAcceptEffect (s : State) : State :=
  match s.txp with
  | some b => { s.emit (.tx b) with txp := none }
  | none => s

/-- TX_ACCEPT (43_link.md R182), enabled only with a byte pending. -/
def execTxAccept (s : State) : StepOutcome := eventWhen s.txp.isSome s txAcceptEffect

/-- DRIVE_BYTE: the robot's poll consumes this drive byte (30_encoding.md R76, R87; 43_link.md R187). -/
def execDriveByte (motor : Motor) (forward : Bool) (mag : BitVec 6) (s : State) : StepOutcome :=
  command (some .robot) s (robotReceive (some (driveByteCode motor forward mag)))

/-- ACK_1: the robot's poll consumes 0x31 (30_encoding.md R79, R87; 43_link.md R187). -/
def execAck1 (s : State) : StepOutcome :=
  command (some .robot) s (robotReceive (some msgCollision))

/-- MSG_CLEAR_0: the remote's poll consumes 0x30 (30_encoding.md R78; 43_link.md R189). -/
def execMsgClear0 (s : State) : StepOutcome :=
  command (some .remote) s (remoteReceive (some msgClear))

/-- MSG_COLLISION_1: the remote's poll consumes 0x31 (30_encoding.md R78; 43_link.md R189). -/
def execMsgCollision1 (s : State) : StepOutcome :=
  command (some .remote) s (remoteReceive (some msgCollision))

/-- MSG_OBSTACLE_2: the remote's poll consumes 0x32 (30_encoding.md R78; 43_link.md R189). -/
def execMsgObstacle2 (s : State) : StepOutcome :=
  command (some .remote) s (remoteReceive (some msgObstacle))

/-- MSG_OTHER: the remote's poll consumes a byte of any other value (30_encoding.md R78;
43_link.md R189). -/
def execMsgOther (b : Byte) (s : State) : StepOutcome :=
  command (some .remote) s (remoteReceive (some b))

end Sys2Proof.Machine
end

