-- ==== Sys2Proof/Machine/Range.lean ====
section
/-!
DEFINITION. The range finder: echo edges, the RANGE command and its sample step (41_range.md).
-/
namespace Sys2Proof.Machine

/-- `dist(e)`, the distance in cm of an elapsed time in microseconds (41_range.md R125). -/
def distanceCm (e : BitVec 64) : Nat :=
  sat16 (f32Trunc (f32Mul (f32OfNat e.toNat) Config.cmPerUs))

/-- A sample of the echo line at the edge detector (41_range.md R120, R121): a level equal to ECHO_LVL
is no edge, a rise starts MC0 and a fall stops it. A REMOTE instance has no range finder and holds
ECHO_LVL at its reset value (70_reset_and_hazards.md R250, log 9). -/
def echoSample (level : Bool) (s : State) : State :=
  if s.params.role = .robot ∧ s.echoLvl ≠ level then
    { s with echoLvl := level, mc0 := if level then s.mc0.start else s.mc0.stop }
  else s

/-- ECHO_RISE (41_range.md R121). -/
def execEchoRise (s : State) : StepOutcome := .next (echoSample true s)

/-- ECHO_FALL (41_range.md R121). -/
def execEchoFall (s : State) : StepOutcome := .next (echoSample false s)

/-- The trigger pulse: TRIG low, high, low, recorded as one event of the history, and RANGE_SAMPLE
due (41_range.md R122). The durations are timing (70_reset_and_hazards.md R270). -/
def triggerPulse (s : State) : State := { s.emit .trigPulse with trig := false, rngp := true }

/-- RANGE, phase 1 (41_range.md R122): no effect while the robot awaits the acknowledgement. `res` is
unspecified until RANGE_SAMPLE writes it (log 1). -/
def rangeEffect (s : State) : State :=
  match s.hs with
  | .awaitingAck => s.returnsNothing
  | .running => (triggerPulse s).returnsNothing

/-- RANGE (41_range.md R122). -/
def execRange (s : State) : StepOutcome := command (some .robot) s rangeEffect

/-- RANGE_SAMPLE, phase 2 (41_range.md R123): read, convert and reset MC0 in one step. -/
def rangeSampleEffect (s : State) : State :=
  { s with mc0 := s.mc0.clear, rngp := false
           res := BitVec.ofNat 64 (distanceCm (s.elapsed .mc0)) }

/-- RANGE_SAMPLE (41_range.md R123). -/
def execRangeSample (s : State) : StepOutcome := eventWhen s.rngp s rangeSampleEffect

end Sys2Proof.Machine
end

