-- ==== Sys2Proof/Machine/Reset.lean ====
section
/-!
DEFINITION. The RESET event (70_reset_and_hazards.md R250, R251).
-/
namespace Sys2Proof.Machine

/-- The state after RESET of this instance: every field of 10_state.md R35 at its reset value. The
input ports, the stimuli and the free-value indices belong to the world outside the block and keep
their values, so that no free value is used twice (log 1, log 4). -/
def resetEffect (s : State) : State :=
  { State.resetOf s.params with
    ports := s.ports, pending := s.pending, drawIdx := s.drawIdx, freeIdx := s.freeIdx }

/-- RESET (70_reset_and_hazards.md R250): in a REMOTE instance the calibration runs and may raise
ConfigError (R251, 60_exceptions.md R221); a ROBOT instance does not calibrate (log 6). -/
def execReset (s : State) : StepOutcome :=
  match s.params.role with
  | .robot => .next (resetEffect s)
  | .remote =>
    match calibrate s.params with
    | .ok _ => .next (resetEffect s)
    | .error r => raiseConfigError r

end Sys2Proof.Machine
end

