-- ==== Sys2Proof/Machine/Dispatch.lean ====
section
/-!
DEFINITION. One arm per instruction.
-/
namespace Sys2Proof.Machine

def exec (i : Instr) (s : State) : Host.Outcome State Fault Refusal :=
  match i with
  | .mcStart c => Sys2Proof.Machine.execMcStart c s
  | .mcStop c => Sys2Proof.Machine.execMcStop c s
  | .mcReset c => Sys2Proof.Machine.execMcReset c s
  | .mcRead c => Sys2Proof.Machine.execMcRead c s
  | .range => Sys2Proof.Machine.execRange s
  | .encodeStick mm => Sys2Proof.Machine.execEncode mm s
  | .sendDrive mm => Sys2Proof.Machine.execSendDrive mm s
  | .faultEval => Sys2Proof.Machine.execFaultEval s
  | .collEval => Sys2Proof.Machine.execCollEval s
  | .robotRxPoll => Sys2Proof.Machine.execRobotRxPoll s
  | .remoteRxPoll => Sys2Proof.Machine.execRemoteRxPoll s
  | .confirmPoll => Sys2Proof.Machine.execConfirmPoll s
  | .tick0 => Sys2Proof.Machine.execTick0 s
  | .tick1 => Sys2Proof.Machine.execTick1 s
  | .echoFall => Sys2Proof.Machine.execEchoFall s
  | .echoRise => Sys2Proof.Machine.execEchoRise s
  | .txAccept => Sys2Proof.Machine.execTxAccept s
  | .rangeSample => Sys2Proof.Machine.execRangeSample s
  | .reset => Sys2Proof.Machine.execReset s
  | .driveByte m f g => Sys2Proof.Machine.execDriveByte m f g s
  | .ack1 => Sys2Proof.Machine.execAck1 s
  | .msgClear0 => Sys2Proof.Machine.execMsgClear0 s
  | .msgCollision1 => Sys2Proof.Machine.execMsgCollision1 s
  | .msgObstacle2 => Sys2Proof.Machine.execMsgObstacle2 s
  | .msgOther b => Sys2Proof.Machine.execMsgOther b s

end Sys2Proof.Machine
end

