-- ==== Sys2Proof/Machine/Cycle.lean ====
section
/-!
DEFINITION. One step as the block takes it: the stimulus of the step, its ports and its word, and the
instruction that the word is (20_memory.md R56). `step` itself is in Step.lean and only calls these.
-/
namespace Sys2Proof.Machine

/-- The stimulus of the next step: the first one already decided, or the environment's free draw
(20_memory.md R56, log 4). -/
def State.nextStimulus (s : State) : Stimulus :=
  match s.pending with
  | st :: _ => st
  | [] => Config.envDraw s.drawIdx

/-- The state once that stimulus has been taken off. -/
def State.afterTake (s : State) : State :=
  match s.pending with
  | _ :: rest => { s with pending := rest }
  | [] => { s with drawIdx := s.drawIdx + 1 }

/-- The state in which a stimulus is run: its levels on the input ports and `rx_take` low until the
step itself raises it (43_link.md R181). -/
def State.present (s : State) (st : Stimulus) : State :=
  { s with ports := st.ports, rxTake := false }

/-- What the decoder's rejection means for the step (60_exceptions.md R222). -/
def illegalRefusal : Illegal → Refusal
  | .reservedCommand w => .reservedCommand w
  | .unknownEvent tag => .unknownEvent tag

/-- Run an instruction on an instance that exists. A REMOTE with constants that 42_encoder.md R141
refuses is not built and must not be run (60_exceptions.md R221): only RESET is tried there, and it
raises ConfigError (log 20). -/
def runInstr (i : Instr) (s : State) : StepOutcome :=
  match s.params.configRefusal with
  | none => exec i s
  | some r => if i = .reset then exec i s else .refused (.configurationRefused r)

/-- One step with its stimulus given: decode the word in the space it arrives in, and run it. -/
def applyStimulus (st : Stimulus) (s : State) : StepOutcome :=
  match decode (s.spaceOf st.source) st.word with
  | .ok i => runInstr i (s.present st)
  | .error e => .refused (illegalRefusal e)

/-- The node to which an instruction belongs, none for both (30_encoding.md R71, R87). -/
def instrRole : Instr → Option Role
  | .mcStart _ | .mcStop _ | .mcReset _ | .mcRead _ => none
  | .range | .faultEval | .collEval | .robotRxPoll => some .robot
  | .encodeStick _ | .sendDrive _ | .remoteRxPoll | .confirmPoll => some .remote
  | .tick0 | .tick1 | .txAccept | .reset => none
  | .echoFall | .echoRise | .rangeSample => some .robot
  | .driveByte _ _ _ | .ack1 => some .robot
  | .msgClear0 | .msgCollision1 | .msgObstacle2 | .msgOther _ => some .remote

/-- The parameters of the node that has an instruction, with the constants of `p` (log 7). -/
def nodeParams (p : Params) (i : Instr) : Params :=
  match instrRole i with
  | some r => { p with role := r }
  | none => p

/-- `s` as an instance of the node that has the instruction of a bare table number; `s` itself where that
instance is refused and so does not exist (60_exceptions.md R221, log 7). -/
def State.asNodeOf (s : State) (i : Option Instr) : State :=
  match i with
  | none => s
  | some i =>
    match (nodeParams s.params i).configRefusal with
    | none => { s with params := nodeParams s.params i }
    | some _ => s

/-- `s` with a bare table number as the word of its very next step, with the port levels it has, on
the node that has that instruction (log 4, log 7). -/
def State.placeTableWord (s : State) (nbits w : Nat) : State :=
  let word := BitVec.ofNat 8 w
  let st : Stimulus := { source := tableSource word, word := word, ports := s.ports }
  { s.asNodeOf (decodeTableWord nbits w) with pending := st :: s.pending }

end Sys2Proof.Machine
end

