-- ==== Sys2Proof/Machine/Step.lean ====
section
/-!
DEFINITION. The step of one JR core, and how the host places a word as its next instruction.
-/
namespace Sys2Proof.Machine

/-- One step (20_memory.md R56): the next stimulus is taken and run. -/
def step (s : State) : Host.Outcome State Fault Refusal :=
  applyStimulus s.nextStimulus s.afterTake

/-- `s` with the word `w` of `nbits` bits as the word of its very next step (log 4). -/
def State.withFetchWord (s : State) (nbits w : Nat) : State := s.placeTableWord nbits w

end Sys2Proof.Machine
end

