-- ==== Sys2Proof/Machine/Sequencer.lean ====
section
/-!
DEFINITION. The controllers' tick programs ROBOT_TICK (43_link.md R195) and REMOTE_TICK (R196), with
their loops DRAIN_RX, AWAIT_ACK and AWAIT_CONFIRM (30_encoding.md R86). A controller is outside the
block (10_state.md R21): these definitions stand beside `step` and `step` does not use them. A
controller issues one command at a time, and none during a hold (70_reset_and_hazards.md R260).
-/
namespace Sys2Proof.Machine

/-- The command that ROBOT_TICK issues next (43_link.md R195). -/
inductive RobotPlace where
  | collEval
  | awaitAck
  | range
  | faultEval
  | drainRx
deriving DecidableEq, Repr, Inhabited

/-- The command that REMOTE_TICK issues next (43_link.md R196). -/
inductive RemotePlace where
  | sendLeft
  | sendRight
  | rxPoll
  | awaitConfirm
deriving DecidableEq, Repr, Inhabited

/-- The command of a place of ROBOT_TICK (43_link.md R195). -/
def robotCommand : RobotPlace → Instr
  | .collEval => .collEval
  | .awaitAck => .robotRxPoll
  | .range => .range
  | .faultEval => .faultEval
  | .drainRx => .robotRxPoll

/-- The command of a place of REMOTE_TICK: the left motor first, then the right (43_link.md R196). -/
def remoteCommand : RemotePlace → Instr
  | .sendLeft => .sendDrive .left
  | .sendRight => .sendDrive .right
  | .rxPoll => .remoteRxPoll
  | .awaitConfirm => .confirmPoll

/-- Where ROBOT_TICK goes on after its command, by the state the command leaves; `collEval` is the
start of the next tick. There is no timeout (43_link.md R195, R197). -/
def robotNext (p : RobotPlace) (s : State) : RobotPlace :=
  match p with
  | .collEval => match s.hs with
    | .awaitingAck => .awaitAck
    | .running => .range
  | .awaitAck => match s.hs with
    | .awaitingAck => .awaitAck
    | .running => .collEval
  | .range => .faultEval
  | .faultEval => .drainRx
  | .drainRx => if s.res = 0 then .collEval else .drainRx

/-- Where REMOTE_TICK goes on after its command; `sendLeft` is the start of the next tick
(43_link.md R196, R197). -/
def remoteNext (p : RemotePlace) (s : State) : RemotePlace :=
  match p with
  | .sendLeft => .sendRight
  | .sendRight => .rxPoll
  | .rxPoll => match s.rfsm with
    | .latched => .awaitConfirm
    | .idle => .sendLeft
  | .awaitConfirm => match s.rfsm with
    | .latched => .awaitConfirm
    | .idle => .sendLeft

/-- The port levels under a robot command: FAULT_EVAL takes `d = res`, the distance that RANGE_SAMPLE
returned (43_link.md R195 step 4); every other level is the environment's. -/
def robotPorts (p : RobotPlace) (s : State) (env : Ports) : Ports :=
  match p with
  | .faultEval => { env with opdD := s.res.truncate 16 }
  | .collEval | .awaitAck | .range | .drainRx => env

/-- A ROBOT node: the block and the place of its controller. -/
structure RobotNode where
  core : State
  place : RobotPlace
deriving DecidableEq, Repr

/-- A REMOTE node: the block, the place of its controller, and the sample pair of the current tick,
which both drive bytes use (43_link.md R196). -/
structure RemoteNode where
  core : State
  place : RemotePlace
  sampleX : Byte
  sampleY : Byte
deriving DecidableEq, Repr

/-- What drives a node for one step: its controller issues its next command under the levels given, or
an event arrives. -/
inductive NodeMove where
  | issue (env : Ports)
  | event (tag : Byte) (env : Ports)
deriving DecidableEq, Repr

/-- The stimulus that issues the command `i`. -/
def issueStimulus (i : Instr) (env : Ports) : Stimulus :=
  { source := .cmd, word := (encode i).2, ports := env }

/-- A RESET starts the controller's first tick program (70_reset_and_hazards.md R252). -/
def isResetTag (tag : Byte) : Bool := tag == 0xFF

/-- One step of a ROBOT node under ROBOT_TICK (43_link.md R195). -/
def robotNodeStep (m : NodeMove) (n : RobotNode) : Host.Outcome RobotNode Fault Refusal :=
  match m with
  | .issue env =>
    match applyStimulus (issueStimulus (robotCommand n.place) (robotPorts n.place n.core env)) n.core with
    | .next t => .next { core := t, place := robotNext n.place t }
    | .fault f => .fault f
    | .refused r => .refused r
  | .event tag env =>
    match applyStimulus { source := .evt, word := tag, ports := env } n.core with
    | .next t => .next { core := t, place := if isResetTag tag then .collEval else n.place }
    | .fault f => .fault f
    | .refused r => .refused r

/-- The samples of the tick: the left command takes the environment's pair, and the right one the same
pair again (43_link.md R196). -/
def tickSamples (n : RemoteNode) (env : Ports) : Ports :=
  match n.place with
  | .sendRight => { env with opdX := n.sampleX, opdY := n.sampleY }
  | .sendLeft | .rxPoll | .awaitConfirm => env

/-- One step of a REMOTE node under REMOTE_TICK (43_link.md R196). -/
def remoteNodeStep (m : NodeMove) (n : RemoteNode) : Host.Outcome RemoteNode Fault Refusal :=
  match m with
  | .issue env =>
    let ports := tickSamples n env
    match applyStimulus (issueStimulus (remoteCommand n.place) ports) n.core with
    | .next t =>
      .next { core := t, place := remoteNext n.place t, sampleX := ports.opdX, sampleY := ports.opdY }
    | .fault f => .fault f
    | .refused r => .refused r
  | .event tag env =>
    match applyStimulus { source := .evt, word := tag, ports := env } n.core with
    | .next t => .next { n with core := t, place := if isResetTag tag then .sendLeft else n.place }
    | .fault f => .fault f
    | .refused r => .refused r

end Sys2Proof.Machine
end

