-- ==== Sys2Proof/Machine/System.lean ====
section
/-!
DEFINITION. The two-node system: a ROBOT and a REMOTE instance joined by two one-way byte channels
(20_memory.md R62-R64, 60_exceptions.md R231). Nothing orders the nodes' steps: a move names which
agent acts, and any order of moves is a run. `step` does not use these definitions.
-/
namespace Sys2Proof.Machine

/-- The parameter `CH_MODEL` (20_memory.md R62). -/
inductive ChModel where
  | reliable
  | lossy
  | any
deriving DecidableEq, Repr, Inhabited

/-- Whether a channel may lose a byte (log 21 on `any`; 20_memory.md R62). -/
def ChModel.mayLose : ChModel → Bool
  | .reliable => false
  | .lossy | .any => true

/-- Whether a channel may alter a byte (20_memory.md R62). -/
def ChModel.mayAlter : ChModel → Bool
  | .reliable | .lossy => false
  | .any => true

/-- The two nodes and the bytes in flight to each, oldest first. -/
structure TwoNodes where
  channel : ChModel
  robot : State
  remote : State
  toRobot : List Byte
  toRemote : List Byte
deriving DecidableEq, Repr

/-- One move of the system: a node takes a command or an event, or a channel loses or alters the byte
at a place. `offer` says whether the receiver offers the oldest byte of its channel in that step; a
poll may find none although a byte is on its way. -/
inductive SystemMove where
  | command (node : Role) (word : Byte) (env : Ports) (offer : Bool)
  | event (node : Role) (tag : Byte) (env : Ports)
  | lose (toNode : Role) (place : Nat)
  | alter (toNode : Role) (place : Nat) (b : Byte)
deriving DecidableEq, Repr

/-- The instance at a node. -/
def TwoNodes.core (S : TwoNodes) : Role → State
  | .robot => S.robot
  | .remote => S.remote

/-- The bytes on their way to a node. -/
def TwoNodes.inbox (S : TwoNodes) : Role → List Byte
  | .robot => S.toRobot
  | .remote => S.toRemote

/-- The system with a node's instance replaced. -/
def TwoNodes.setCore (S : TwoNodes) (n : Role) (s : State) : TwoNodes :=
  match n with
  | .robot => { S with robot := s }
  | .remote => { S with remote := s }

/-- The system with the bytes on their way to a node replaced. -/
def TwoNodes.setInbox (S : TwoNodes) (n : Role) (bs : List Byte) : TwoNodes :=
  match n with
  | .robot => { S with toRobot := bs }
  | .remote => { S with toRemote := bs }

/-- The other node. -/
def peer : Role → Role
  | .robot => .remote
  | .remote => .robot

/-- The receive port under a command: the oldest byte of the channel if it is offered, else none
(20_memory.md R62, 43_link.md R181). -/
def TwoNodes.offered (S : TwoNodes) (n : Role) (offer : Bool) : Option Byte :=
  if offer then (S.inbox n).head? else none

/-- A command of a node: the byte it consumed, if any, leaves the channel (20_memory.md R62). -/
def TwoNodes.afterCommand (S : TwoNodes) (n : Role) (t : State) : TwoNodes :=
  let S' := S.setCore n t
  if t.rxTake then S'.setInbox n (S.inbox n).tail else S'

/-- The byte that an event puts on the line: the pending one at TX_ACCEPT (43_link.md R182). -/
def sentByte (tag : Byte) (s : State) : List Byte := if tag = 0x20 then s.txp.toList else []

/-- An event of a node: a byte that left the transmitter enters the channel to the peer. A RESET
touches no channel (70_reset_and_hazards.md R250). -/
def TwoNodes.afterEvent (S : TwoNodes) (n : Role) (tag : Byte) (t : State) : TwoNodes :=
  (S.setCore n t).setInbox (peer n) (S.inbox (peer n) ++ sentByte tag (S.core n))

/-- One move of the two-node system. Under `any` the channels keep R62's table: bytes stay in order, may be
lost or altered, and none is duplicated or made up. D27 of 92_eei_decisions.md calls ANY "any byte
sequence", which is wider; the model follows the rule (log 21). -/
def systemStep (m : SystemMove) (S : TwoNodes) : Host.Outcome TwoNodes Fault Refusal :=
  match m with
  | .command n word env offer =>
    match applyStimulus
      { source := .cmd, word := word, ports := { env with rx := S.offered n offer } } (S.core n) with
    | .next t => .next (S.afterCommand n t)
    | .fault f => .fault f
    | .refused r => .refused r
  | .event n tag env =>
    match applyStimulus { source := .evt, word := tag, ports := env } (S.core n) with
    | .next t => .next (S.afterEvent n tag t)
    | .fault f => .fault f
    | .refused r => .refused r
  | .lose n place =>
    if S.channel.mayLose && decide (place < (S.inbox n).length) then
      .next (S.setInbox n ((S.inbox n).eraseIdx place))
    else .refused .channelForbids
  | .alter n place b =>
    if S.channel.mayAlter && decide (place < (S.inbox n).length) then
      .next (S.setInbox n ((S.inbox n).set place b))
    else .refused .channelForbids

/-- The system with both nodes just reset and nothing in flight, or the ConfigError that refuses a node
(60_exceptions.md R221); each node is reset on its own afterwards (70_reset_and_hazards.md R254). The
role of each instance is its node's. -/
def TwoNodes.build (ch : ChModel) (robot remote : Params) : Except ConfigReason TwoNodes :=
  match State.build { robot with role := .robot }, State.build { remote with role := .remote } with
  | .ok r, .ok m => .ok { channel := ch, robot := r, remote := m, toRobot := [], toRemote := [] }
  | .error e, _ => .error e
  | .ok _, .error e => .error e

end Sys2Proof.Machine
end

