-- ==== Sys2Proof/Safety.lean ====
section
/-!
DEFINITION. What counts as a good state and a good trace, in the terms the claims use: legal
parameters (00_scope.md R8, 42_encoder.md R141), the state invariant, and the alternation of the
distance messages (43_link.md R184).
-/
namespace Sys2Proof.Machine

/-- The parameters are in the ranges of 00_scope.md R8, and a REMOTE instance's calibration constants
pass 42_encoder.md R141 (60_exceptions.md R221, 70_reset_and_hazards.md R253). -/
def Params.legal (p : Params) : Prop :=
  p.wf = true ∧ (p.role = .remote → checkCalibration p = none)

/-- The invariant of every instance the spec builds. -/
structure State.Inv (s : State) : Prop where
  /-- The instance was not refused (60_exceptions.md R221). -/
  paramsLegal : Params.legal s.params
  /-- CAL is read-only after reset (10_state.md R31). -/
  calFixed : s.cal = resetCal s.params
  /-- CNT of MC0 is in range (10_state.md R22). -/
  cnt0 : s.mc0.cnt < s.params.mc0.range
  /-- CNT of MC1 is in range (10_state.md R22). -/
  cnt1 : s.mc1.cnt < s.params.mc1.range
  /-- TRIG ends low (41_range.md R122). -/
  trigLow : s.trig = false
  /-- The fields a ROBOT does not use are at their reset values (70_reset_and_hazards.md R250). -/
  robotUnused : s.params.role = .robot → s.dir = false ∧ s.rfsm = .idle ∧ s.disp = .clear
  /-- The fields a REMOTE does not use are at their reset values (70_reset_and_hazards.md R250). -/
  remoteUnused : s.params.role = .remote →
    s.obs = false ∧ s.hs = .running ∧ s.actL = neutralActuator ∧ s.actR = neutralActuator
      ∧ s.echoLvl = false ∧ s.rngp = false
  /-- No range is pending while the robot awaits the acknowledgement (70_reset_and_hazards.md R268). -/
  rangeRunning : s.rngp = true → s.hs = .running
  /-- At most one of the two holds is in force (10_state.md R32). -/
  oneHold : s.rngp = true → s.txp = none
  /-- The motors stand still while a collision is unconfirmed (43_link.md R193). -/
  stopped : s.hs = .awaitingAck → s.actL = neutralActuator ∧ s.actR = neutralActuator
  /-- A duty is a multiple of 4 (43_link.md R187). -/
  dutyQuantised : s.actL.duty &&& 3 = 0 ∧ s.actR.duty &&& 3 = 0
  /-- The display shows the collision exactly while the remote is latched (43_link.md R189, R191). -/
  latchDisplay : s.rfsm = .latched ↔ s.disp = .collision
  /-- A latched remote has nothing to send (43_link.md R194). -/
  latchedQuiet : s.rfsm = .latched → s.txp = none

/-- Whether a byte is one of the two distance messages, '0' and '2' (43_link.md R183). -/
def isDistanceMsg (b : Byte) : Bool := b == msgClear || b == msgObstacle

/-- The distance messages of a history, oldest first. -/
def distanceMsgs : List OutEvent → List Byte
  | [] => []
  | .trigPulse :: h => distanceMsgs h
  | .tx b :: h => if isDistanceMsg b then b :: distanceMsgs h else distanceMsgs h

/-- The distance messages sent since reset, the one awaiting the transmitter included. -/
def State.distanceMessages (s : State) : List Byte :=
  distanceMsgs s.hist ++ s.txp.toList.filter isDistanceMsg

/-- '2', '0', '2', … when `next` is '2', and '0', '2', '0', … when it is '0'. -/
def alternatesFrom (next : Byte) : List Byte → Bool
  | [] => true
  | b :: bs => b == next && alternatesFrom (if next = msgObstacle then msgClear else msgObstacle) bs

/-- The edge-trigger law of a ROBOT: its distance messages alternate, '2' first, and OBS tells whether
the last one was '2' (43_link.md R184, 10_state.md R26). -/
def State.edgeTriggered (s : State) : Prop :=
  s.params.role = .robot →
    alternatesFrom msgObstacle s.distanceMessages = true
      ∧ (s.obs = true ↔ s.distanceMessages.length % 2 = 1)

end Sys2Proof.Machine
end

