-- ==== Sys2Proof/Certificates/Slice0/Obligations.lean ====
section
/-!
DEFINITION. The statements for the provers. Where a command leaves `res` unspecified
(30_encoding.md R75) a statement says `∃ v`, and nothing about `v`; `freeIdx` is the model's own index
of those values (assumption log 1). An equation `exec i s = .next { s with … }` is the whole effect:
every field it does not name is unchanged.
-/
open Sys2Proof Sys2Proof.Machine

/-! ### Microsecond clocks -/

/-- 40_clock.md R100 and R101: the counts are kept and no other field changes. -/
def Obligations.McStartAndMcStopKeepTheCount : Prop :=
  (∀ i : ClockId, decode .cmd (0x10 ||| clockCode i) = .ok (.mcStart i) ∧
    decode .cmd (0x20 ||| clockCode i) = .ok (.mcStop i)) ∧
  ∀ (i : ClockId) (s : State), s.held = false →
    (∃ (v : BitVec 64) (n : Nat), exec (.mcStart i) s =
      .next { s.setMc i { s.mc i with run := true } with res := v, freeIdx := n }) ∧
    ∃ (v : BitVec 64) (n : Nat), exec (.mcStop i) s =
      .next { s.setMc i { s.mc i with run := false } with res := v, freeIdx := n }

/-- 40_clock.md R102. -/
def Obligations.McResetStopsAndZeroesTheClock : Prop :=
  (∀ i : ClockId, decode .cmd (0x30 ||| clockCode i) = .ok (.mcReset i)) ∧
  (∀ (i : ClockId) (s : State), s.held = false →
    ∃ (v : BitVec 64) (n : Nat), exec (.mcReset i) s =
      .next { s.setMc i { run := false, ovf := 0, cnt := 0 } with res := v, freeIdx := n }) ∧
  ∀ (i : ClockId) (s t : State), exec (.mcReset i) s = .next t → t.elapsed i = 0

/-- 40_clock.md R103 and R105: the result is the exact quotient, floored once and reduced modulo 2^64. -/
def Obligations.McReadReturnsTheElapsedMicroseconds : Prop :=
  (∀ i : ClockId, decode .cmd (0x40 ||| clockCode i) = .ok (.mcRead i)) ∧
  ∀ (i : ClockId) (s : State), s.held = false →
    exec (.mcRead i) s = .next { s with
      res := BitVec.ofNat 64
        (((s.mc i).ovf.toNat * (s.params.clock i).range + (s.mc i).cnt)
          * (s.params.clock i).prescaler * 1000000 / (s.params.clock i).freq) }

/-- 40_clock.md R105, R106: with a whole number of microseconds per tick the floor has no effect. -/
def Obligations.ElapsedIsCountTimesTickWhenTheTickIsWhole : Prop :=
  ∀ (p : ClockParams) (c : Clock) (k : Nat), 1 ≤ p.freq → p.prescaler * 1000000 = k * p.freq →
    c.elapsed p = BitVec.ofNat 64 ((c.ovf.toNat * p.range + c.cnt) * k)

/-- 40_clock.md R104: a stopped clock drops the tick, a running one counts, and the rollover raises OVF
in the same step. -/
def Obligations.TimerTickCountsAndRollsOver : Prop :=
  decode .evt 0x01 = .ok .tick0 ∧ decode .evt 0x02 = .ok .tick1 ∧
  ∀ s : State,
    (s.mc0.run = false → exec .tick0 s = .next s) ∧
    (s.mc0.run = true → s.mc0.cnt + 1 = s.params.mc0.range →
      exec .tick0 s = .next { s with mc0 := { run := true, ovf := s.mc0.ovf + 1, cnt := 0 } }) ∧
    (s.mc0.run = true → s.mc0.cnt + 1 ≠ s.params.mc0.range →
      exec .tick0 s = .next { s with mc0 := { run := true, ovf := s.mc0.ovf, cnt := s.mc0.cnt + 1 } }) ∧
    (s.mc1.run = false → exec .tick1 s = .next s) ∧
    (s.mc1.run = true → s.mc1.cnt + 1 = s.params.mc1.range →
      exec .tick1 s = .next { s with mc1 := { run := true, ovf := s.mc1.ovf + 1, cnt := 0 } }) ∧
    (s.mc1.run = true → s.mc1.cnt + 1 ≠ s.params.mc1.range →
      exec .tick1 s = .next { s with mc1 := { run := true, ovf := s.mc1.ovf, cnt := s.mc1.cnt + 1 } })

/-- 40_clock.md R107, on the tick count and the time before the reduction modulo 2^64: the reduced time
falls when it wraps, which R109 allows (assumption log 12). -/
def Obligations.ClockNeverRunsBackward : Prop :=
  (∀ (j : ClockId) (i : Instr) (s t : State), exec i s = .next t →
    i ≠ .mcReset j → i ≠ .reset → (j = .mc0 → i ≠ .rangeSample) →
    (s.mc j).ovf ≠ BitVec.allOnes 64 →
    (s.mc j).count (s.params.clock j).range ≤ (t.mc j).count (s.params.clock j).range ∧
    (s.mc j).exactMicros (s.params.clock j) ≤ (t.mc j).exactMicros (s.params.clock j)) ∧
  (∀ s t : State, exec .tick0 s = .next t → s.mc0.run = true → s.mc0.ovf ≠ BitVec.allOnes 64 →
    t.mc0.count s.params.mc0.range = s.mc0.count s.params.mc0.range + 1) ∧
  ∀ s t : State, exec .tick1 s = .next t → s.mc1.run = true → s.mc1.ovf ≠ BitVec.allOnes 64 →
    t.mc1.count s.params.mc1.range = s.mc1.count s.params.mc1.range + 1

/-- 40_clock.md R108 and 10_state.md R35: which instructions can change each clock. -/
def Obligations.OnlyItsOwnInstructionsChangeAClock : Prop :=
  ∀ (i : Instr) (s t : State), exec i s = .next t →
    (t.mc0 ≠ s.mc0 →
      i ∈ [.mcStart .mc0, .mcStop .mc0, .mcReset .mc0, .tick0, .echoRise, .echoFall, .rangeSample, .reset]) ∧
    (t.mc1 ≠ s.mc1 → i ∈ [.mcStart .mc1, .mcStop .mc1, .mcReset .mc1, .tick1, .reset])

/-! ### Range finder -/

/-- 41_range.md R121: a rise starts MC0 and a fall stops it, in every handshake state. -/
def Obligations.EchoEdgesStartAndStopMc0 : Prop :=
  decode .evt 0x11 = .ok .echoRise ∧ decode .evt 0x10 = .ok .echoFall ∧
  ∀ s : State, s.params.role = .robot →
    (s.echoLvl = false →
      exec .echoRise s = .next { s with echoLvl := true, mc0 := { s.mc0 with run := true } }) ∧
    (s.echoLvl = true →
      exec .echoFall s = .next { s with echoLvl := false, mc0 := { s.mc0 with run := false } })

/-- The model's inference from 41_range.md R120 and 70_reset_and_hazards.md R250 (assumption logs 10 and
9): an event equal to ECHO_LVL is no edge, and a REMOTE instance has no range finder; both change
nothing. -/
def Obligations.EchoSamplesThatAreNoEdgeChangeNothing : Prop :=
  ∀ s : State,
    (s.echoLvl = true → exec .echoRise s = .next s) ∧
    (s.echoLvl = false → exec .echoFall s = .next s) ∧
    (s.params.role = .remote → exec .echoRise s = .next s ∧ exec .echoFall s = .next s)

/-- 41_range.md R122: the trigger is one history event and the sample is due; while the robot awaits the
acknowledgement RANGE has no effect. That `res` is unspecified until the sample is the model's
reading (assumption log 1). -/
def Obligations.RangePulsesOnlyWhileRunning : Prop :=
  ∀ s : State, s.params.role = .robot → s.held = false →
    (s.hs = .running → ∃ (v : BitVec 64) (n : Nat), exec .range s =
      .next { s with trig := false, hist := s.hist ++ [.trigPulse], rngp := true, res := v, freeIdx := n }) ∧
    (s.hs = .awaitingAck → ∃ (v : BitVec 64) (n : Nat), exec .range s =
      .next { s with res := v, freeIdx := n })

/-- 41_range.md R123: read, convert and reset in one step; enabled only with a range pending. -/
def Obligations.RangeSampleReadsConvertsAndClears : Prop :=
  decode .evt 0x30 = .ok .rangeSample ∧
  ∀ s : State,
    (s.rngp = true → exec .rangeSample s =
      .next { s with
        mc0 := { run := false, ovf := 0, cnt := 0 }
        rngp := false
        res := BitVec.ofNat 64 (distanceCm (s.mc0.elapsed s.params.mc0)) }) ∧
    (s.rngp = false → ∀ t, exec .rangeSample s ≠ .next t)

/-- 41_range.md R125, with CM_PER_US as its bits: the conversion, that a longer time is never a shorter
distance, and that the distance first reaches 65535 at 3 855 000 microseconds and stays there. -/
def Obligations.DistanceIsMonotoneAndSaturates : Prop :=
  (∀ e : BitVec 64,
    distanceCm e = min (f32Trunc (f32Mul (f32OfNat e.toNat) 0x3C8B4396#32)) 65535) ∧
  (∀ a b : BitVec 64, a.toNat ≤ b.toNat → distanceCm a ≤ distanceCm b) ∧
  ∀ e : BitVec 64,
    (e.toNat < 3855000 → distanceCm e < 65535) ∧ (3855000 ≤ e.toNat → distanceCm e = 65535)

/-- 00_scope.md R15: below the overflow threshold of binary32, `fl32` gives a finite pattern, no finite
pattern is nearer to `n / d`, and of two equally near values the even pattern is given. Values are
in units of 2^-149. -/
def Obligations.BinaryRoundingIsNearestEven : Prop :=
  ∀ (n d : Nat) (g : F32), 0 < d → n < (2 ^ 25 - 1) * 2 ^ 252 * d → f32Exponent g < 255 →
    f32Exponent (f32OfUnits n d) < 255 ∧
    ((f32Units (f32OfUnits n d) * d : Int) - n).natAbs ≤ ((f32Units g * d : Int) - n).natAbs ∧
    (((f32Units (f32OfUnits n d) * d : Int) - n).natAbs = ((f32Units g * d : Int) - n).natAbs →
      f32Units g = f32Units (f32OfUnits n d) ∨ (f32OfUnits n d).getLsbD 0 = false)

/-! ### Calibrator and encoder -/

/-- 42_encoder.md R141 and 60_exceptions.md R221: RESET of a REMOTE instance completes exactly when the
constants of both axes are legal, and raises ConfigError otherwise; an instance is built exactly then. -/
def Obligations.ConfigurationIsRefusedExactlyWhenIllegal : Prop :=
  ∀ s : State, s.params.role = .remote →
    ((∃ t, exec .reset s = .next t) ↔
      ∀ a ∈ [s.params.x, s.params.y],
        a.posExt ≠ a.zero ∧ a.negExt ≠ a.zero ∧
        2 ≤ |(a.posExt.toNat : Int) - a.zero.toNat| ∧ 2 ≤ |(a.negExt.toNat : Int) - a.zero.toNat| ∧
        ((a.posExt.toNat : Int) - a.zero.toNat) * ((a.negExt.toNat : Int) - a.zero.toNat) < 0) ∧
    ((∃ t, exec .reset s = .next t) ∨ ∃ r, exec .reset s = .fault (.configError r)) ∧
    ((∃ t, State.build s.params = .ok t) ↔ ∃ t, exec .reset s = .next t)

/-- 60_exceptions.md R221: the recorded reason is a condition that the constants do break. Which one is
recorded when several are broken is the model's choice (assumption log 8), and this does not say. That
only a REMOTE raises it is the model's choice too (assumption log 6, from 70_reset_and_hazards.md
R251). -/
def Obligations.ConfigErrorReasonIsABrokenCondition : Prop :=
  ∀ (s : State) (r : ConfigReason), exec .reset s = .fault (.configError r) →
    s.params.role = .remote ∧ ∃ a ∈ [s.params.x, s.params.y],
      match r with
      | .extEqCentre => a.posExt = a.zero ∨ a.negExt = a.zero
      | .zeroRange => |(a.posExt.toNat : Int) - a.zero.toNat| = 1 ∨ |(a.negExt.toNat : Int) - a.zero.toNat| = 1
      | .sameSide =>
        0 < ((a.posExt.toNat : Int) - a.zero.toNat) * ((a.negExt.toNat : Int) - a.zero.toNat)

/-- 42_encoder.md R142, 10_state.md R31: the four records of a legal configuration. -/
def Obligations.CalibrationRecordsOfALegalConfiguration : Prop :=
  ∀ p : Params, checkCalibration p = none →
    ∃ c : CalFile, calibrate p = .ok c ∧
      ∀ r ∈ [(p.x.zero, p.x.posExt, c.xPos), (p.x.zero, p.x.negExt, c.xNeg),
             (p.y.zero, p.y.posExt, c.yPos), (p.y.zero, p.y.negExt, c.yNeg)],
        r.2.2.max = r.2.1 ∧
        (r.2.2.min.toNat : Int) = r.1.toNat + (if r.1 < r.2.1 then 1 else -1) ∧
        (r.2.2.range.toNat : Int) = |(r.2.1.toNat : Int) - r.2.2.min.toNat| ∧
        1 ≤ r.2.2.range.toNat ∧ r.2.2.range.toNat ≤ 254 ∧
        r.2.2.scale = fl32 254 r.2.2.range.toNat

/-- 42_encoder.md R143. -/
def Obligations.SidesOfASample : Prop :=
  ∀ (p : Params) (v : Byte),
    (sideX p v = .centre ↔ v = p.x.zero) ∧
    (sideX p v = .pos ↔ v ≠ p.x.zero ∧
      ((v.toNat : Int) - p.x.zero.toNat).sign = ((p.x.posExt.toNat : Int) - p.x.zero.toNat).sign) ∧
    (sideY p v = .centre ↔ |(v.toNat : Int) - p.y.zero.toNat| ≤ p.yZeroOffset.toNat) ∧
    (sideY p v = .pos ↔ ¬ |(v.toNat : Int) - p.y.zero.toNat| ≤ p.yZeroOffset.toNat ∧
      ((v.toNat : Int) - p.y.zero.toNat).sign = ((p.y.posExt.toNat : Int) - p.y.zero.toNat).sign)

/-- 42_encoder.md R146, R147, with STEER_K as its bits: the steering reduction and the blend. -/
def Obligations.BlendReducesTheMotorOnTheStickSide : Prop :=
  (∀ mx : Byte, mx.toNat ≤ 252 →
    (steerReduction mx = BitVec.ofNat 8 (f32Trunc (f32Mul (f32OfNat mx.toNat) 0x3E99999A#32)) &&& 0xFC) ∧
    (steerReduction mx).toNat ≤ 72) ∧
  steerReduction 252 = 72 ∧
  ∀ (p : Params) (c : CalFile) (x y : Byte) (m : Motor),
    (sideY p y = .centre → blend p c x y m = 0) ∧
    (sideY p y ≠ .centre → (m = .left ∧ sideX p x = .neg) ∨ (m = .right ∧ sideX p x = .pos) →
      ((blend p c x y m).toNat : Int)
        = max (((mapY p c y).toNat : Int) - (steerReduction (mapX p c x)).toNat) 0) ∧
    (sideY p y ≠ .centre → ¬ ((m = .left ∧ sideX p x = .neg) ∨ (m = .right ∧ sideX p x = .pos)) →
      blend p c x y m = mapY p c y)

/-- 42_encoder.md R152.1, R147: for every calibration file, sample pair and motor. -/
def Obligations.MagnitudeIsAMultipleOfFourUpTo252 : Prop :=
  ∀ (p : Params) (c : CalFile) (x y : Byte) (m : Motor),
    (blend p c x y m).toNat % 4 = 0 ∧ (blend p c x y m).toNat ≤ 252

/-- 42_encoder.md R144, R145, with OUT_MIN as 1 and THROTTLE_K as its bits: the mapping of a record, the
mapping by side, and that at the extreme of any legal direction mapx is 252 and mapy is 176. -/
def Obligations.ExtremeSampleMapsTo252And176 : Prop :=
  (∀ (c : CalRecord) (v : Byte) (f : F32),
    f = f32Add (fl32 1 1) (f32Mul c.scale (fl32 ((v.toNat : Int) - c.min.toNat).natAbs 1)) →
    mapXRecord c v = BitVec.ofNat 8 (min (f32Trunc f) 255) &&& 0xFC ∧
    mapYRecord c v = BitVec.ofNat 8 (min (f32Trunc (f32Mul f 0x3F333333#32)) 255) &&& 0xFC) ∧
  (∀ (p : Params) (c : CalFile) (v : Byte),
    (sideX p v = .centre → mapX p c v = 0) ∧
    (sideX p v = .pos → mapX p c v = mapXRecord c.xPos v) ∧
    (sideX p v = .neg → mapX p c v = mapXRecord c.xNeg v) ∧
    (sideY p v = .centre → mapY p c v = 0) ∧
    (sideY p v = .pos → mapY p c v = mapYRecord c.yPos v) ∧
    (sideY p v = .neg → mapY p c v = mapYRecord c.yNeg v)) ∧
  ∀ z e : Byte, 2 ≤ |(e.toNat : Int) - z.toNat| →
    mapXRecord (calRecord z e) e = 252 ∧ mapYRecord (calRecord z e) e = 176

/-- 42_encoder.md R148: binary32 and exact arithmetic give different mapx for exactly 15 pairs of a
range and a distance, each at half the range. -/
def Obligations.BinaryAndExactMapxDifferAtFifteenPairs : Prop :=
  ∀ rg d : Nat, 1 ≤ rg → rg ≤ 254 → d ≤ 255 →
    (q4 (sat8 (f32Trunc (f32Add (f32OfNat 1) (f32Mul (f32Div (f32OfNat 254) (f32OfNat rg)) (f32OfNat d)))))
        ≠ q4 (sat8 ((rg + 254 * d) / rg)) ↔
      2 * d = rg ∧ rg ∈ [30, 38, 58, 60, 76, 102, 116, 120, 122, 152, 190, 204, 232, 240, 244])

/-- 42_encoder.md R150 (with `blend` of R147). -/
def Obligations.EncodeReturnsTheDriveByteAndHoldsDirection : Prop :=
  (∀ mm : MotorSel, decode .cmd (0x60 ||| motorSelCode mm) = .ok (.encodeStick mm)) ∧
  ∀ (mm : MotorSel) (s : State), s.params.role = .remote → s.held = false →
    ∀ (m : Motor) (d : Bool), m = (if mm = .right then Motor.right else Motor.left) →
      d = (if sideY s.params s.ports.opdY = .pos then true
           else if sideY s.params s.ports.opdY = .neg then false else s.dir) →
      exec (.encodeStick mm) s = .next { s with
        dir := d
        res := BitVec.zeroExtend 64
          (blend s.params s.cal s.ports.opdX s.ports.opdY m
            ||| (if d then 2#8 else 0#8) ||| (if m = .left then 1#8 else 0#8)) }

/-- 42_encoder.md R152.2 and R152.3: a neutral Y gives magnitude 0 and holds the direction. -/
def Obligations.NeutralYGivesMagnitudeZeroAndHoldsDirection : Prop :=
  ∀ (mm : MotorSel) (s : State), s.params.role = .remote → s.held = false →
    |(s.ports.opdY.toNat : Int) - s.params.y.zero.toNat| ≤ s.params.yZeroOffset.toNat →
    exec (.encodeStick mm) s = .next { s with
      res := (if s.dir then 2#64 else 0#64) ||| (if mm = .right then 0#64 else 1#64) }

/-- 42_encoder.md R151: the byte of R150 is sent, unless the remote is latched. -/
def Obligations.SendDriveTransmitsUnlessLatched : Prop :=
  (∀ mm : MotorSel, decode .cmd (0x70 ||| motorSelCode mm) = .ok (.sendDrive mm)) ∧
  ∀ (mm : MotorSel) (s : State), s.params.role = .remote → s.held = false →
    (s.rfsm = .idle → ∀ t, exec (.encodeStick mm) s = .next t →
      exec (.sendDrive mm) s = .next { t with txp := some (t.res.truncate 8) }) ∧
    (s.rfsm = .idle → ∃ t, exec (.sendDrive mm) s = .next t) ∧
    (s.rfsm = .latched → ∃ (v : BitVec 64) (n : Nat),
      exec (.sendDrive mm) s = .next { s with res := v, freeIdx := n })

/-- 42_encoder.md R152.4: mirroring an axis and its sample about the centre changes no side and no
magnitude. -/
def Obligations.MirroringAnAxisKeepsTheMagnitude : Prop :=
  ∀ (p : Params) (a : AxisParams) (v w u : Byte) (m : Motor), checkCalibration p = none →
    ((a.zero = p.x.zero ∧ (a.posExt.toNat : Int) = 2 * p.x.zero.toNat - p.x.posExt.toNat ∧
        (a.negExt.toNat : Int) = 2 * p.x.zero.toNat - p.x.negExt.toNat ∧
        (w.toNat : Int) = 2 * p.x.zero.toNat - v.toNat) →
      sideX { p with x := a } w = sideX p v ∧
      blend { p with x := a } (resetCal { p with x := a }) w u m = blend p (resetCal p) v u m) ∧
    ((a.zero = p.y.zero ∧ (a.posExt.toNat : Int) = 2 * p.y.zero.toNat - p.y.posExt.toNat ∧
        (a.negExt.toNat : Int) = 2 * p.y.zero.toNat - p.y.negExt.toNat ∧
        (w.toNat : Int) = 2 * p.y.zero.toNat - v.toNat) →
      sideY { p with y := a } w = sideY p v ∧
      blend { p with y := a } (resetCal { p with y := a }) u w m = blend p (resetCal p) u v m)

/-- 42_encoder.md R153: the worked example, with every number it prints. -/
def Obligations.WorkedExampleGives252 : Prop :=
  cal 133 0 = .ok { min := 132, max := 0, range := 132, scale := 0x3FF64D93 } ∧
  f32Mul 0x3FF64D93 (f32OfNat 132) = f32OfNat 254 ∧
  f32Add (f32OfNat 1) (f32OfNat 254) = f32OfNat 255 ∧
  ∀ p : Params, p.x = { zero := 133, posExt := 0, negExt := 255 } → checkCalibration p = none →
    sideX p 0 = .pos ∧ mapX p (resetCal p) 0 = 252

/-! ### Link and handshake -/

/-- 43_link.md R183. -/
def Obligations.FaultEvalSignalsOnlyTheEdges : Prop :=
  decode .cmd 0x80 = .ok .faultEval ∧
  ∀ s : State, s.params.role = .robot → s.held = false →
    (s.hs = .running → s.ports.opdD.toNat < s.params.distLimit.toNat → s.obs = false →
      ∃ (v : BitVec 64) (n : Nat), exec .faultEval s =
        .next { s with obs := true, txp := some 0x32, res := v, freeIdx := n }) ∧
    (s.hs = .running → s.params.distLimit.toNat ≤ s.ports.opdD.toNat → s.obs = true →
      ∃ (v : BitVec 64) (n : Nat), exec .faultEval s =
        .next { s with obs := false, txp := some 0x30, res := v, freeIdx := n }) ∧
    (s.hs = .awaitingAck ∨ (s.ports.opdD.toNat < s.params.distLimit.toNat ↔ s.obs = true) →
      ∃ (v : BitVec 64) (n : Nat), exec .faultEval s = .next { s with res := v, freeIdx := n })

/-- 43_link.md R185 and R186. -/
def Obligations.CollisionStopsTheMotorsAndOpensTheHandshake : Prop :=
  decode .cmd 0x90 = .ok .collEval ∧
  ∀ s : State, s.params.role = .robot → s.held = false →
    ∀ hit : Prop, (hit ↔
      (s.params.accThr.toNat : Int) < |s.ports.opdAx.toInt - s.params.accOffX.toInt| ∨
      (s.params.accThr.toNat : Int) < |s.ports.opdAy.toInt - s.params.accOffY.toInt| ∨
      (s.params.accThr.toNat : Int) < |s.ports.opdAz.toInt - s.params.accOffZ.toInt|) →
    (s.hs = .running → hit → ∃ (v : BitVec 64) (n : Nat), exec .collEval s =
      .next { s with
        actL := { dirsig := .neutral, duty := 0 }
        actR := { dirsig := .neutral, duty := 0 }
        hs := .awaitingAck
        txp := some 0x31
        res := v
        freeIdx := n }) ∧
    (s.hs = .awaitingAck ∨ ¬ hit → ∃ (v : BitVec 64) (n : Nat), exec .collEval s =
      .next { s with res := v, freeIdx := n })

/-- 43_link.md R181 and R187. That a consumed byte leaves the receive port of the state is the model's
inference (assumption log 13). -/
def Obligations.RobotPollActsOnTheByteByItsPhase : Prop :=
  decode .cmd 0xA0 = .ok .robotRxPoll ∧
  ∀ s : State, s.params.role = .robot → s.held = false →
    (s.ports.rx = none → exec .robotRxPoll s = .next { s with res := 0 }) ∧
    ∀ (b : Byte) (t : State), s.ports.rx = some b →
      t = { s with rxTake := true, ports := { s.ports with rx := none }, res := 0x100 ||| b.zeroExtend 64 } →
      (s.hs = .running → b.getLsbD 0 = true → exec .robotRxPoll s =
        .next { t with actL := { dirsig := if b.getLsbD 1 then .forward else .reverse, duty := b &&& 0xFC } }) ∧
      (s.hs = .running → b.getLsbD 0 = false → exec .robotRxPoll s =
        .next { t with actR := { dirsig := if b.getLsbD 1 then .forward else .reverse, duty := b &&& 0xFC } }) ∧
      (s.hs = .awaitingAck → b = 0x31 → exec .robotRxPoll s = .next { t with hs := .running }) ∧
      (s.hs = .awaitingAck → b ≠ 0x31 → exec .robotRxPoll s = .next t)

/-- 43_link.md R181 and R189. That a consumed byte leaves the receive port of the state is the model's
inference (assumption log 13). -/
def Obligations.RemotePollDecodesTheFaultByte : Prop :=
  decode .cmd 0xB0 = .ok .remoteRxPoll ∧
  ∀ s : State, s.params.role = .remote → s.held = false →
    (s.rfsm = .latched ∨ s.ports.rx = none → exec .remoteRxPoll s = .next { s with res := 0 }) ∧
    ∀ (b : Byte) (t : State), s.rfsm = .idle → s.ports.rx = some b →
      t = { s with rxTake := true, ports := { s.ports with rx := none }, res := 0x100 ||| b.zeroExtend 64 } →
      (b = 0x30 → exec .remoteRxPoll s = .next { t with disp := .clear }) ∧
      (b = 0x31 → exec .remoteRxPoll s = .next { t with disp := .collision, rfsm := .latched }) ∧
      (b = 0x32 → exec .remoteRxPoll s = .next { t with disp := .obstacle }) ∧
      (b ≠ 0x30 → b ≠ 0x31 → b ≠ 0x32 → exec .remoteRxPoll s = .next { t with disp := .commError })

/-- 43_link.md R191. -/
def Obligations.ConfirmPollAcknowledgesOnce : Prop :=
  decode .cmd 0xC0 = .ok .confirmPoll ∧
  ∀ s : State, s.params.role = .remote → s.held = false →
    (s.rfsm = .latched → s.ports.confirm = true → ∃ (v : BitVec 64) (n : Nat), exec .confirmPoll s =
      .next { s with disp := .clear, rfsm := .idle, txp := some 0x31, res := v, freeIdx := n }) ∧
    (s.rfsm = .idle ∨ s.ports.confirm = false → ∃ (v : BitVec 64) (n : Nat), exec .confirmPoll s =
      .next { s with res := v, freeIdx := n })

/-- 43_link.md R182: the pending byte joins the history, TXP becomes invalid, and in the two-node system
the byte enters the channel to the other node. -/
def Obligations.TxAcceptMovesThePendingByteToTheHistory : Prop :=
  decode .evt 0x20 = .ok .txAccept ∧
  (∀ s : State,
    (∀ b : Byte, s.txp = some b →
      exec .txAccept s = .next { s with hist := s.hist ++ [.tx b], txp := none }) ∧
    (s.txp = none → ∀ t, exec .txAccept s ≠ .next t)) ∧
  ∀ (n : Role) (env : Ports) (S : TwoNodes) (b : Byte), (S.core n).txp = some b →
    (S.core n).params.configRefusal = none →
    ∃ T : TwoNodes, systemStep (.event n 0x20 env) S = .next T ∧
      T.inbox (peer n) = S.inbox (peer n) ++ [b] ∧ T.inbox n = S.inbox n

/-- 30_encoding.md R76, R77, R87 and 43_link.md R187, in the model's reading of the table's link rows
(assumption logs 5 and 13): what a drive byte and an acknowledgement do at the robot in each phase. -/
def Obligations.LinkBytesAtTheRobot : Prop :=
  ∀ (m : Motor) (f : Bool) (g : BitVec 6) (s : State), s.params.role = .robot → s.held = false →
    ∀ b : Byte, b = driveByteCode m f g →
    ∀ t a : State,
      t = { s with rxTake := true, ports := { s.ports with rx := none }, res := 0x100 ||| b.zeroExtend 64 } →
      a = { s with rxTake := true, ports := { s.ports with rx := none }, res := 0x131 } →
      (s.hs = .running → exec (.driveByte m f g) s =
        .next (t.setAct m { dirsig := if f then .forward else .reverse, duty := g.zeroExtend 8 <<< 2 })) ∧
      (s.hs = .awaitingAck → b ≠ 0x31 → exec (.driveByte m f g) s = .next t) ∧
      (s.hs = .awaitingAck → b = 0x31 → exec (.driveByte m f g) s = .next { t with hs := .running }) ∧
      (s.hs = .awaitingAck → exec .ack1 s = .next { a with hs := .running }) ∧
      (s.hs = .running → exec .ack1 s = .next { a with actL := { dirsig := .reverse, duty := 48 } })

/-- 30_encoding.md R78, R87 and 43_link.md R189, in the model's reading of the table's link rows
(assumption logs 5 and 13): what a fault-channel byte does at the remote. -/
def Obligations.LinkBytesAtTheRemote : Prop :=
  ∀ s : State, s.params.role = .remote → s.held = false →
    (s.rfsm = .idle → ∀ t : State,
      t = { s with rxTake := true, ports := { s.ports with rx := none } } →
      exec .msgClear0 s = .next { t with disp := .clear, res := 0x130 } ∧
      exec .msgCollision1 s = .next { t with disp := .collision, rfsm := .latched, res := 0x131 } ∧
      exec .msgObstacle2 s = .next { t with disp := .obstacle, res := 0x132 } ∧
      ∀ b : Byte, (Instr.msgOther b).wf = true →
        exec (.msgOther b) s = .next { t with disp := .commError, res := 0x100 ||| b.zeroExtend 64 }) ∧
    (s.rfsm = .latched → ∀ i : Instr,
      (i = .msgClear0 ∨ i = .msgCollision1 ∨ i = .msgObstacle2 ∨ ∃ b, i = .msgOther b ∧ i.wf = true) →
      exec i s = .next { s with res := 0 })

/-- 43_link.md R192: the robot leaves the handshake only by consuming 0x31, or by reset. -/
def Obligations.HandshakeEndsOnlyByAckOrReset : Prop :=
  ∀ (i : Instr) (s t : State), exec i s = .next t → s.hs = .awaitingAck → t.hs = .running →
    i = .reset ∨
    (t.rxTake = true ∧ t.res = 0x131 ∧
      ((i = .robotRxPoll ∧ s.ports.rx = some 0x31) ∨ i = .ack1 ∨
        ∃ m f g, i = .driveByte m f g ∧ driveByteCode m f g = 0x31))

/-- 43_link.md R193, 70_reset_and_hazards.md R268: while the acknowledgement is awaited the motors and
the trigger stand still, no range starts, and no further byte is queued. -/
def Obligations.OutputsStandStillDuringTheHandshake : Prop :=
  ∀ (i : Instr) (s t : State), exec i s = .next t → s.params.role = .robot → s.hs = .awaitingAck →
    i ≠ .reset →
    t.actL = s.actL ∧ t.actR = s.actR ∧ t.trig = s.trig ∧
    (t.rngp = true → s.rngp = true) ∧ (t.txp = s.txp ∨ t.txp = none) ∧
    (∀ e, t.hist = s.hist ++ [e] → e ≠ .trigPulse)

/-- 43_link.md R193: the only writers of ACT are COLL_EVAL (to neutral), a byte consumed in Running,
and reset. -/
def Obligations.OnlyCollisionDriveByteAndResetWriteTheActuators : Prop :=
  ∀ (i : Instr) (s t : State), exec i s = .next t → (t.actL ≠ s.actL ∨ t.actR ≠ s.actR) →
    i = .reset ∨
    (i = .collEval ∧ t.actL = neutralActuator ∧ t.actR = neutralActuator ∧ t.hs = .awaitingAck) ∨
    (s.hs = .running ∧ t.rxTake = true ∧ (t.actL = s.actL ∨ t.actR = s.actR) ∧
      (i = .robotRxPoll ∨ i = .ack1 ∨ ∃ m f g, i = .driveByte m f g))

/-- 43_link.md R194: a latched remote can only send the acknowledgement. -/
def Obligations.LatchedRemoteSendsOnlyTheAcknowledgement : Prop :=
  ∀ (i : Instr) (s t : State), exec i s = .next t → s.params.role = .remote → s.rfsm = .latched →
    t.txp ≠ s.txp → t.txp = none ∨ (t.txp = some 0x31 ∧ i = .confirmPoll ∧ s.ports.confirm = true)

/-- 43_link.md R184: every step keeps the alternation of the distance messages, '2' first. -/
def Obligations.EveryStepKeepsTheEdgeTriggerLaw : Prop :=
  ∀ s t : State, s.edgeTriggered → step s = .next t → t.edgeTriggered

/-- 43_link.md R184: the law holds right after reset of any instance. -/
def Obligations.EdgeTriggerLawHoldsAfterReset : Prop :=
  ∀ p : Params, (State.resetOf p).edgeTriggered

/-! ### Issue rules, reset and the whole machine -/

/-- 70_reset_and_hazards.md R260: a command offered while TXP is valid or RNGP is 1 is refused. -/
def Obligations.CommandDuringAHoldIsRefused : Prop :=
  ∀ (i : Instr) (s : State), (encode i).1 = .cmd →
    (instrRole i = none ∨ instrRole i = some s.params.role) →
    (s.txp.isSome = true ∨ s.rngp = true) → exec i s = .refused .commandDuringHold

/-- 30_encoding.md R83. That the role is what a command is refused for when the controller is held as well
is the model's choice (assumption log 14). -/
def Obligations.CommandOfTheOtherRoleIsRefused : Prop :=
  ∀ s : State,
    (s.params.role = .remote → ∀ i ∈ [.range, .faultEval, .collEval, .robotRxPoll],
      exec i s = .refused .wrongRole) ∧
    (s.params.role = .robot → ∀ mm : MotorSel,
      ∀ i ∈ [.encodeStick mm, .sendDrive mm, .remoteRxPoll, .confirmPoll], exec i s = .refused .wrongRole) ∧
    ∀ c : ClockId, ∀ i ∈ [.mcStart c, .mcStop c, .mcReset c, .mcRead c], exec i s ≠ .refused .wrongRole

/-- 30_encoding.md R82: exactly 234 command words are reserved, and a step that is offered one is
refused. -/
def Obligations.ReservedCommandWordsAreRefused : Prop :=
  (∀ w : Byte, decode .cmd w = .error (.reservedCommand w) ↔
    (w.toNat / 16 ∈ [0x0, 0xD, 0xE, 0xF] ∨
      (w.toNat / 16 ∈ [0x1, 0x2, 0x3, 0x4] ∧ 2 ≤ w.toNat % 16) ∨
      (w.toNat / 16 ∈ [0x6, 0x7] ∧ 4 ≤ w.toNat % 16) ∨
      (w.toNat / 16 ∈ [0x5, 0x8, 0x9, 0xA, 0xB, 0xC] ∧ 1 ≤ w.toNat % 16))) ∧
  ((List.range 256).filter fun n => (commandOf (BitVec.ofNat 8 n)).isNone).length = 234 ∧
  ∀ (s : State) (st : Stimulus) (rest : List Stimulus), s.pending = st :: rest → st.source = .cmd →
    decode .cmd st.word = .error (.reservedCommand st.word) → step s = .refused (.reservedCommand st.word)

/-- 70_reset_and_hazards.md R250. That a ROBOT is reset whatever its constants are is the model's choice
(assumption log 6), and so is that RESET keeps the ports, the stimuli and the indices (assumption logs
1, 2 and 4). What `res` and `rx_take` read after reset is the model's choice
(assumption log 2), and this does not say. The ports, the stimuli and the indices are outside the
block, and a reset touches no channel. -/
def Obligations.ResetLeavesTheStateOfR250 : Prop :=
  decode .evt 0xFF = .ok .reset ∧
  (∀ (n : Role) (env : Ports) (S T : TwoNodes), systemStep (.event n 0xFF env) S = .next T →
    T.toRobot = S.toRobot ∧ T.toRemote = S.toRemote) ∧
  ∀ s : State, (s.params.role = .robot ∨ checkCalibration s.params = none) →
    ∃ (c : CalFile) (v : BitVec 64) (k : Bool),
      (checkCalibration s.params = none → calibrate s.params = .ok c) ∧
      exec .reset s = .next {
        params := s.params
        mc0 := { run := false, ovf := 0, cnt := 0 }
        mc1 := { run := false, ovf := 0, cnt := 0 }
        echoLvl := false
        trig := false
        dir := false
        cal := c
        obs := false
        hs := .running
        actL := { dirsig := .neutral, duty := 0 }
        actR := { dirsig := .neutral, duty := 0 }
        rfsm := .idle
        disp := .clear
        txp := none
        rngp := false
        hist := []
        res := v
        rxTake := k
        ports := s.ports
        pending := s.pending
        drawIdx := s.drawIdx
        freeIdx := s.freeIdx }

/-- 60_exceptions.md R223, R221: nothing but RESET faults, and only with ConfigError. That it does so in a
REMOTE alone is the model's choice (assumption log 6, from 70_reset_and_hazards.md R251). -/
def Obligations.OnlyAnIllegalConfigurationFaults : Prop :=
  ∀ (i : Instr) (s : State) (f : Fault), exec i s = .fault f →
    i = .reset ∧ s.params.role = .remote ∧ ∃ r, f = .configError r ∧ calibrate s.params = .error r

/-- 00_scope.md R8, 10_state.md R31, R34: no instruction changes the parameters, and only RESET loads
the calibration file. -/
def Obligations.ParametersAndCalibrationAreFixed : Prop :=
  ∀ (i : Instr) (s t : State), exec i s = .next t →
    t.params = s.params ∧ (i ≠ .reset → t.cal = s.cal) ∧ (i = .reset → t.cal = resetCal s.params)

/-- 10_state.md R33: the history grows by at most one event, at the end; TX_ACCEPT adds the pending
byte and RANGE a trigger pulse, and nothing else adds to it. -/
def Obligations.HistoryOnlyGrowsAtTheEnd : Prop :=
  ∀ (i : Instr) (s t : State), exec i s = .next t → i ≠ .reset →
    t.hist = s.hist ∨ (i = .range ∧ t.hist = s.hist ++ [.trigPulse]) ∨
      ∃ b, i = .txAccept ∧ s.txp = some b ∧ t.hist = s.hist ++ [.tx b]

/-- 30_encoding.md R75, 93_implementation_defined.md I13: no instruction reads `res`. -/
def Obligations.NoInstructionReadsTheResultPort : Prop :=
  ∀ (i : Instr) (s : State) (v : BitVec 64),
    match exec i s with
    | .next t => ∃ r, exec i { s with res := v } = .next { t with res := r }
    | .fault f => exec i { s with res := v } = .fault f
    | .refused q => exec i { s with res := v } = .refused q

/-- 10_state.md R33: no instruction reads the history. -/
def Obligations.NoInstructionReadsTheHistory : Prop :=
  ∀ (i : Instr) (s : State) (h : List OutEvent),
    match exec i s with
    | .next t => ∃ h', exec i { s with hist := h } = .next { t with hist := h' }
    | .fault f => exec i { s with hist := h } = .fault f
    | .refused q => exec i { s with hist := h } = .refused q

/-- The model's step (20_memory.md R56, assumption log 4): it takes the next stimulus, puts its levels
on the ports, and runs the instruction that its word decodes to; where none is decided, the
environment's free draw is the next one. A refused configuration is not run (60_exceptions.md R221,
assumption log 20): there only RESET is tried. -/
def Obligations.StepRunsTheDecodedInstruction : Prop :=
  (∀ (s : State) (st : Stimulus) (rest : List Stimulus) (i : Instr), s.pending = st :: rest →
    decode (s.spaceOf st.source) st.word = .ok i →
    (s.params.configRefusal = none ∨ i = .reset →
      step s = exec i { s with pending := rest, ports := st.ports, rxTake := false }) ∧
    (∀ r, s.params.configRefusal = some r → i ≠ .reset →
      step s = .refused (.configurationRefused r))) ∧
  (∀ p : Params,
    p.configRefusal = none ↔ (p.role = .remote → checkCalibration p = none)) ∧
  ∀ s : State, s.pending = [] →
    step s = step { s with pending := [Config.envDraw s.drawIdx], drawIdx := s.drawIdx + 1 }

/-- The model's host interface (assumption logs 4, 7): a bare table number is the very next instruction,
in any handshake state, on the node that has it and under the port levels it has, where that node's
configuration is not refused. -/
def Obligations.PlacedWordIsTheNextInstruction : Prop :=
  ∀ (s : State) (w : Nat) (i : Instr) (p : Params), decodeTableWord 8 w = some i →
    p = (match instrRole i with
      | some r => { s.params with role := r }
      | none => s.params) →
    p.configRefusal = none →
    step (s.withFetchWord 8 w) = exec i { s with params := p, rxTake := false }

/-- 30_encoding.md R70-R73, R76-R79, R87: every well-formed instruction is read back from its word. -/
def Obligations.DecodeInvertsEncode : Prop :=
  ∀ i : Instr, i.wf = true → decode (encode i).1 (encode i).2 = .ok i

/-- 30_encoding.md R70-R73, R77, R84: a word that decodes in any space is the word of a well-formed
instruction, bit for bit. -/
def Obligations.EncodeInvertsDecode : Prop :=
  ∀ (sp : Space) (w : Byte) (i : Instr), decode sp w = .ok i → i.wf = true ∧ (encode i).2 = w

/-- Words written out from 30_encoding.md R71, R73, R76, R78 decode to their instructions. -/
def Obligations.WrittenOutWordsDecode : Prop :=
  decode .cmd 0b00010001 = .ok (.mcStart .mc1) ∧ decode .cmd 0b01010000 = .ok .range ∧
  decode .cmd 0b01100010 = .ok (.encodeStick .default2) ∧ decode .cmd 0b10100000 = .ok .robotRxPoll ∧
  decode .evt 0b00010001 = .ok .echoRise ∧ decode .evt 0b00110000 = .ok .rangeSample ∧
  decode .robotRunning 0b10110011 = .ok (.driveByte .left true 0b101100) ∧
  decode .robotAwaiting 0b00110001 = .ok .ack1 ∧ decode .remote 0b00110010 = .ok .msgObstacle2

/-- Every step keeps the invariant of Safety.lean (10_state.md R22, R31, R32; 43_link.md R193, R194;
70_reset_and_hazards.md R250). -/
def Obligations.EveryStepKeepsTheInvariant : Prop :=
  ∀ s t : State, s.Inv → step s = .next t → t.Inv

/-- The invariant holds at `State.reset`, whose parameters are the model's choice (assumption log 3). -/
def Obligations.TheInvariantHoldsAtReset : Prop := State.reset.Inv

/-- The invariant holds right after reset of every instance with legal parameters. -/
def Obligations.TheInvariantHoldsAfterResetOfALegalInstance : Prop :=
  ∀ p : Params, Params.legal p → (State.resetOf p).Inv

/-! ### Controllers and the two nodes -/

/-- 43_link.md R195: each command of ROBOT_TICK, its levels and where the program goes on. -/
def Obligations.RobotTickFollowsItsProgram : Prop :=
  ∀ (n n' : RobotNode) (env : Ports), robotNodeStep (.issue env) n = .next n' →
    match n.place with
    | .collEval =>
      exec .collEval { n.core with ports := env, rxTake := false } = .next n'.core ∧
      n'.place = (if n'.core.hs = .awaitingAck then .awaitAck else .range)
    | .awaitAck =>
      exec .robotRxPoll { n.core with ports := env, rxTake := false } = .next n'.core ∧
      n'.place = (if n'.core.hs = .awaitingAck then .awaitAck else .collEval)
    | .range =>
      exec .range { n.core with ports := env, rxTake := false } = .next n'.core ∧ n'.place = .faultEval
    | .faultEval =>
      exec .faultEval { n.core with ports := { env with opdD := n.core.res.truncate 16 }, rxTake := false }
        = .next n'.core ∧ n'.place = .drainRx
    | .drainRx =>
      exec .robotRxPoll { n.core with ports := env, rxTake := false } = .next n'.core ∧
      n'.place = (if n'.core.res = 0 then .collEval else .drainRx)

/-- 43_link.md R196: left then right with one sample pair, one receive poll, then AWAIT_CONFIRM if
latched. -/
def Obligations.RemoteTickFollowsItsProgram : Prop :=
  ∀ (n n' : RemoteNode) (env : Ports), remoteNodeStep (.issue env) n = .next n' →
    match n.place with
    | .sendLeft =>
      exec (.sendDrive .left) { n.core with ports := env, rxTake := false } = .next n'.core ∧
      n'.place = .sendRight ∧ n'.sampleX = env.opdX ∧ n'.sampleY = env.opdY
    | .sendRight =>
      exec (.sendDrive .right)
        { n.core with ports := { env with opdX := n.sampleX, opdY := n.sampleY }, rxTake := false }
        = .next n'.core ∧ n'.place = .rxPoll
    | .rxPoll =>
      exec .remoteRxPoll { n.core with ports := env, rxTake := false } = .next n'.core ∧
      n'.place = (if n'.core.rfsm = .latched then .awaitConfirm else .sendLeft)
    | .awaitConfirm =>
      exec .confirmPoll { n.core with ports := env, rxTake := false } = .next n'.core ∧
      n'.place = (if n'.core.rfsm = .latched then .awaitConfirm else .sendLeft)

/-- 20_memory.md R62, R64, by the move. A command changes only its own node's inbox, and only by the
oldest byte, which it consumed and reported; an event adds to the peer's inbox exactly the byte that
TX_ACCEPT sent; a loss needs a channel that may lose, an alteration one that may alter, and each touches
one byte. Under ANY, that bytes stay in order, are altered one at a time and are neither duplicated nor
made up is the model's reading: R62's table and not D27's "any byte sequence" (assumption log 21). -/
def Obligations.ChannelsKeepTheirOrder : Prop :=
  ∀ (m : SystemMove) (S T : TwoNodes), systemStep m S = .next T →
    T.channel = S.channel ∧
    match m with
    | .command k _ _ offer =>
      T.inbox (peer k) = S.inbox (peer k) ∧
      ((T.core k).rxTake = false → T.inbox k = S.inbox k) ∧
      ((T.core k).rxTake = true → offer = true ∧
        ∃ b, S.inbox k = b :: T.inbox k ∧ (T.core k).res = 0x100 ||| b.zeroExtend 64)
    | .event k tag _ =>
      T.inbox k = S.inbox k ∧
      (tag = 0x20 → ∃ b, (S.core k).txp = some b ∧ T.inbox (peer k) = S.inbox (peer k) ++ [b]) ∧
      (tag ≠ 0x20 → T.inbox (peer k) = S.inbox (peer k))
    | .lose k place =>
      (S.channel = .lossy ∨ S.channel = .any) ∧ place < (S.inbox k).length ∧
      T.inbox k = (S.inbox k).eraseIdx place ∧ T.inbox (peer k) = S.inbox (peer k)
    | .alter k place b =>
      S.channel = .any ∧ place < (S.inbox k).length ∧
      T.inbox k = (S.inbox k).set place b ∧ T.inbox (peer k) = S.inbox (peer k)
end

