-- ==== Sys2Proof/Laws/State.lean ====
section
/-!
SUPPORT. The small lemmas of the state's updates: one per field per update.
-/
namespace Sys2Proof.Machine

variable (s : State)

@[simp] theorem State.returns_params (v : BitVec 64) : (s.returns v).params = s.params := rfl
@[simp] theorem State.returns_mc0 (v : BitVec 64) : (s.returns v).mc0 = s.mc0 := rfl
@[simp] theorem State.returns_mc1 (v : BitVec 64) : (s.returns v).mc1 = s.mc1 := rfl
@[simp] theorem State.returns_echoLvl (v : BitVec 64) : (s.returns v).echoLvl = s.echoLvl := rfl
@[simp] theorem State.returns_trig (v : BitVec 64) : (s.returns v).trig = s.trig := rfl
@[simp] theorem State.returns_dir (v : BitVec 64) : (s.returns v).dir = s.dir := rfl
@[simp] theorem State.returns_cal (v : BitVec 64) : (s.returns v).cal = s.cal := rfl
@[simp] theorem State.returns_obs (v : BitVec 64) : (s.returns v).obs = s.obs := rfl
@[simp] theorem State.returns_hs (v : BitVec 64) : (s.returns v).hs = s.hs := rfl
@[simp] theorem State.returns_actL (v : BitVec 64) : (s.returns v).actL = s.actL := rfl
@[simp] theorem State.returns_actR (v : BitVec 64) : (s.returns v).actR = s.actR := rfl
@[simp] theorem State.returns_rfsm (v : BitVec 64) : (s.returns v).rfsm = s.rfsm := rfl
@[simp] theorem State.returns_disp (v : BitVec 64) : (s.returns v).disp = s.disp := rfl
@[simp] theorem State.returns_txp (v : BitVec 64) : (s.returns v).txp = s.txp := rfl
@[simp] theorem State.returns_rngp (v : BitVec 64) : (s.returns v).rngp = s.rngp := rfl
@[simp] theorem State.returns_hist (v : BitVec 64) : (s.returns v).hist = s.hist := rfl
@[simp] theorem State.returns_res (v : BitVec 64) : (s.returns v).res = v := rfl
@[simp] theorem State.returns_rxTake (v : BitVec 64) : (s.returns v).rxTake = s.rxTake := rfl
@[simp] theorem State.returns_ports (v : BitVec 64) : (s.returns v).ports = s.ports := rfl
@[simp] theorem State.returns_pending (v : BitVec 64) : (s.returns v).pending = s.pending := rfl
@[simp] theorem State.returns_drawIdx (v : BitVec 64) : (s.returns v).drawIdx = s.drawIdx := rfl
@[simp] theorem State.returns_freeIdx (v : BitVec 64) : (s.returns v).freeIdx = s.freeIdx := rfl

@[simp] theorem State.returnsNothing_params : s.returnsNothing.params = s.params := rfl
@[simp] theorem State.returnsNothing_mc0 : s.returnsNothing.mc0 = s.mc0 := rfl
@[simp] theorem State.returnsNothing_mc1 : s.returnsNothing.mc1 = s.mc1 := rfl
@[simp] theorem State.returnsNothing_echoLvl : s.returnsNothing.echoLvl = s.echoLvl := rfl
@[simp] theorem State.returnsNothing_trig : s.returnsNothing.trig = s.trig := rfl
@[simp] theorem State.returnsNothing_dir : s.returnsNothing.dir = s.dir := rfl
@[simp] theorem State.returnsNothing_cal : s.returnsNothing.cal = s.cal := rfl
@[simp] theorem State.returnsNothing_obs : s.returnsNothing.obs = s.obs := rfl
@[simp] theorem State.returnsNothing_hs : s.returnsNothing.hs = s.hs := rfl
@[simp] theorem State.returnsNothing_actL : s.returnsNothing.actL = s.actL := rfl
@[simp] theorem State.returnsNothing_actR : s.returnsNothing.actR = s.actR := rfl
@[simp] theorem State.returnsNothing_rfsm : s.returnsNothing.rfsm = s.rfsm := rfl
@[simp] theorem State.returnsNothing_disp : s.returnsNothing.disp = s.disp := rfl
@[simp] theorem State.returnsNothing_txp : s.returnsNothing.txp = s.txp := rfl
@[simp] theorem State.returnsNothing_rngp : s.returnsNothing.rngp = s.rngp := rfl
@[simp] theorem State.returnsNothing_hist : s.returnsNothing.hist = s.hist := rfl
@[simp] theorem State.returnsNothing_res : s.returnsNothing.res = Config.freeRes s.freeIdx := rfl
@[simp] theorem State.returnsNothing_rxTake : s.returnsNothing.rxTake = s.rxTake := rfl
@[simp] theorem State.returnsNothing_ports : s.returnsNothing.ports = s.ports := rfl
@[simp] theorem State.returnsNothing_pending : s.returnsNothing.pending = s.pending := rfl
@[simp] theorem State.returnsNothing_drawIdx : s.returnsNothing.drawIdx = s.drawIdx := rfl
@[simp] theorem State.returnsNothing_freeIdx : s.returnsNothing.freeIdx = s.freeIdx + 1 := rfl

@[simp] theorem State.transmit_params (b : Byte) : (s.transmit b).params = s.params := rfl
@[simp] theorem State.transmit_mc0 (b : Byte) : (s.transmit b).mc0 = s.mc0 := rfl
@[simp] theorem State.transmit_mc1 (b : Byte) : (s.transmit b).mc1 = s.mc1 := rfl
@[simp] theorem State.transmit_echoLvl (b : Byte) : (s.transmit b).echoLvl = s.echoLvl := rfl
@[simp] theorem State.transmit_trig (b : Byte) : (s.transmit b).trig = s.trig := rfl
@[simp] theorem State.transmit_dir (b : Byte) : (s.transmit b).dir = s.dir := rfl
@[simp] theorem State.transmit_cal (b : Byte) : (s.transmit b).cal = s.cal := rfl
@[simp] theorem State.transmit_obs (b : Byte) : (s.transmit b).obs = s.obs := rfl
@[simp] theorem State.transmit_hs (b : Byte) : (s.transmit b).hs = s.hs := rfl
@[simp] theorem State.transmit_actL (b : Byte) : (s.transmit b).actL = s.actL := rfl
@[simp] theorem State.transmit_actR (b : Byte) : (s.transmit b).actR = s.actR := rfl
@[simp] theorem State.transmit_rfsm (b : Byte) : (s.transmit b).rfsm = s.rfsm := rfl
@[simp] theorem State.transmit_disp (b : Byte) : (s.transmit b).disp = s.disp := rfl
@[simp] theorem State.transmit_txp (b : Byte) : (s.transmit b).txp = some b := rfl
@[simp] theorem State.transmit_rngp (b : Byte) : (s.transmit b).rngp = s.rngp := rfl
@[simp] theorem State.transmit_hist (b : Byte) : (s.transmit b).hist = s.hist := rfl
@[simp] theorem State.transmit_res (b : Byte) : (s.transmit b).res = s.res := rfl
@[simp] theorem State.transmit_rxTake (b : Byte) : (s.transmit b).rxTake = s.rxTake := rfl
@[simp] theorem State.transmit_ports (b : Byte) : (s.transmit b).ports = s.ports := rfl
@[simp] theorem State.transmit_pending (b : Byte) : (s.transmit b).pending = s.pending := rfl
@[simp] theorem State.transmit_drawIdx (b : Byte) : (s.transmit b).drawIdx = s.drawIdx := rfl
@[simp] theorem State.transmit_freeIdx (b : Byte) : (s.transmit b).freeIdx = s.freeIdx := rfl

@[simp] theorem State.emit_params (e : OutEvent) : (s.emit e).params = s.params := rfl
@[simp] theorem State.emit_mc0 (e : OutEvent) : (s.emit e).mc0 = s.mc0 := rfl
@[simp] theorem State.emit_mc1 (e : OutEvent) : (s.emit e).mc1 = s.mc1 := rfl
@[simp] theorem State.emit_echoLvl (e : OutEvent) : (s.emit e).echoLvl = s.echoLvl := rfl
@[simp] theorem State.emit_trig (e : OutEvent) : (s.emit e).trig = s.trig := rfl
@[simp] theorem State.emit_dir (e : OutEvent) : (s.emit e).dir = s.dir := rfl
@[simp] theorem State.emit_cal (e : OutEvent) : (s.emit e).cal = s.cal := rfl
@[simp] theorem State.emit_obs (e : OutEvent) : (s.emit e).obs = s.obs := rfl
@[simp] theorem State.emit_hs (e : OutEvent) : (s.emit e).hs = s.hs := rfl
@[simp] theorem State.emit_actL (e : OutEvent) : (s.emit e).actL = s.actL := rfl
@[simp] theorem State.emit_actR (e : OutEvent) : (s.emit e).actR = s.actR := rfl
@[simp] theorem State.emit_rfsm (e : OutEvent) : (s.emit e).rfsm = s.rfsm := rfl
@[simp] theorem State.emit_disp (e : OutEvent) : (s.emit e).disp = s.disp := rfl
@[simp] theorem State.emit_txp (e : OutEvent) : (s.emit e).txp = s.txp := rfl
@[simp] theorem State.emit_rngp (e : OutEvent) : (s.emit e).rngp = s.rngp := rfl
@[simp] theorem State.emit_hist (e : OutEvent) : (s.emit e).hist = s.hist ++ [e] := rfl
@[simp] theorem State.emit_res (e : OutEvent) : (s.emit e).res = s.res := rfl
@[simp] theorem State.emit_rxTake (e : OutEvent) : (s.emit e).rxTake = s.rxTake := rfl
@[simp] theorem State.emit_ports (e : OutEvent) : (s.emit e).ports = s.ports := rfl
@[simp] theorem State.emit_pending (e : OutEvent) : (s.emit e).pending = s.pending := rfl
@[simp] theorem State.emit_drawIdx (e : OutEvent) : (s.emit e).drawIdx = s.drawIdx := rfl
@[simp] theorem State.emit_freeIdx (e : OutEvent) : (s.emit e).freeIdx = s.freeIdx := rfl

@[simp] theorem State.takeByte_params : s.takeByte.params = s.params := rfl
@[simp] theorem State.takeByte_mc0 : s.takeByte.mc0 = s.mc0 := rfl
@[simp] theorem State.takeByte_mc1 : s.takeByte.mc1 = s.mc1 := rfl
@[simp] theorem State.takeByte_echoLvl : s.takeByte.echoLvl = s.echoLvl := rfl
@[simp] theorem State.takeByte_trig : s.takeByte.trig = s.trig := rfl
@[simp] theorem State.takeByte_dir : s.takeByte.dir = s.dir := rfl
@[simp] theorem State.takeByte_cal : s.takeByte.cal = s.cal := rfl
@[simp] theorem State.takeByte_obs : s.takeByte.obs = s.obs := rfl
@[simp] theorem State.takeByte_hs : s.takeByte.hs = s.hs := rfl
@[simp] theorem State.takeByte_actL : s.takeByte.actL = s.actL := rfl
@[simp] theorem State.takeByte_actR : s.takeByte.actR = s.actR := rfl
@[simp] theorem State.takeByte_rfsm : s.takeByte.rfsm = s.rfsm := rfl
@[simp] theorem State.takeByte_disp : s.takeByte.disp = s.disp := rfl
@[simp] theorem State.takeByte_txp : s.takeByte.txp = s.txp := rfl
@[simp] theorem State.takeByte_rngp : s.takeByte.rngp = s.rngp := rfl
@[simp] theorem State.takeByte_hist : s.takeByte.hist = s.hist := rfl
@[simp] theorem State.takeByte_res : s.takeByte.res = s.res := rfl
@[simp] theorem State.takeByte_rxTake : s.takeByte.rxTake = true := rfl
@[simp] theorem State.takeByte_ports : s.takeByte.ports = { s.ports with rx := none } := rfl
@[simp] theorem State.takeByte_pending : s.takeByte.pending = s.pending := rfl
@[simp] theorem State.takeByte_drawIdx : s.takeByte.drawIdx = s.drawIdx := rfl
@[simp] theorem State.takeByte_freeIdx : s.takeByte.freeIdx = s.freeIdx := rfl

@[simp] theorem State.stopMotors_params : s.stopMotors.params = s.params := rfl
@[simp] theorem State.stopMotors_mc0 : s.stopMotors.mc0 = s.mc0 := rfl
@[simp] theorem State.stopMotors_mc1 : s.stopMotors.mc1 = s.mc1 := rfl
@[simp] theorem State.stopMotors_echoLvl : s.stopMotors.echoLvl = s.echoLvl := rfl
@[simp] theorem State.stopMotors_trig : s.stopMotors.trig = s.trig := rfl
@[simp] theorem State.stopMotors_dir : s.stopMotors.dir = s.dir := rfl
@[simp] theorem State.stopMotors_cal : s.stopMotors.cal = s.cal := rfl
@[simp] theorem State.stopMotors_obs : s.stopMotors.obs = s.obs := rfl
@[simp] theorem State.stopMotors_hs : s.stopMotors.hs = s.hs := rfl
@[simp] theorem State.stopMotors_actL : s.stopMotors.actL = neutralActuator := rfl
@[simp] theorem State.stopMotors_actR : s.stopMotors.actR = neutralActuator := rfl
@[simp] theorem State.stopMotors_rfsm : s.stopMotors.rfsm = s.rfsm := rfl
@[simp] theorem State.stopMotors_disp : s.stopMotors.disp = s.disp := rfl
@[simp] theorem State.stopMotors_txp : s.stopMotors.txp = s.txp := rfl
@[simp] theorem State.stopMotors_rngp : s.stopMotors.rngp = s.rngp := rfl
@[simp] theorem State.stopMotors_hist : s.stopMotors.hist = s.hist := rfl
@[simp] theorem State.stopMotors_res : s.stopMotors.res = s.res := rfl
@[simp] theorem State.stopMotors_rxTake : s.stopMotors.rxTake = s.rxTake := rfl
@[simp] theorem State.stopMotors_ports : s.stopMotors.ports = s.ports := rfl
@[simp] theorem State.stopMotors_pending : s.stopMotors.pending = s.pending := rfl
@[simp] theorem State.stopMotors_drawIdx : s.stopMotors.drawIdx = s.drawIdx := rfl
@[simp] theorem State.stopMotors_freeIdx : s.stopMotors.freeIdx = s.freeIdx := rfl

@[simp] theorem State.present_params (st : Stimulus) : (s.present st).params = s.params := rfl
@[simp] theorem State.present_mc0 (st : Stimulus) : (s.present st).mc0 = s.mc0 := rfl
@[simp] theorem State.present_mc1 (st : Stimulus) : (s.present st).mc1 = s.mc1 := rfl
@[simp] theorem State.present_echoLvl (st : Stimulus) : (s.present st).echoLvl = s.echoLvl := rfl
@[simp] theorem State.present_trig (st : Stimulus) : (s.present st).trig = s.trig := rfl
@[simp] theorem State.present_dir (st : Stimulus) : (s.present st).dir = s.dir := rfl
@[simp] theorem State.present_cal (st : Stimulus) : (s.present st).cal = s.cal := rfl
@[simp] theorem State.present_obs (st : Stimulus) : (s.present st).obs = s.obs := rfl
@[simp] theorem State.present_hs (st : Stimulus) : (s.present st).hs = s.hs := rfl
@[simp] theorem State.present_actL (st : Stimulus) : (s.present st).actL = s.actL := rfl
@[simp] theorem State.present_actR (st : Stimulus) : (s.present st).actR = s.actR := rfl
@[simp] theorem State.present_rfsm (st : Stimulus) : (s.present st).rfsm = s.rfsm := rfl
@[simp] theorem State.present_disp (st : Stimulus) : (s.present st).disp = s.disp := rfl
@[simp] theorem State.present_txp (st : Stimulus) : (s.present st).txp = s.txp := rfl
@[simp] theorem State.present_rngp (st : Stimulus) : (s.present st).rngp = s.rngp := rfl
@[simp] theorem State.present_hist (st : Stimulus) : (s.present st).hist = s.hist := rfl
@[simp] theorem State.present_res (st : Stimulus) : (s.present st).res = s.res := rfl
@[simp] theorem State.present_rxTake (st : Stimulus) : (s.present st).rxTake = false := rfl
@[simp] theorem State.present_ports (st : Stimulus) : (s.present st).ports = st.ports := rfl
@[simp] theorem State.present_pending (st : Stimulus) : (s.present st).pending = s.pending := rfl
@[simp] theorem State.present_drawIdx (st : Stimulus) : (s.present st).drawIdx = s.drawIdx := rfl
@[simp] theorem State.present_freeIdx (st : Stimulus) : (s.present st).freeIdx = s.freeIdx := rfl

@[simp] theorem State.setMc_params (i : ClockId) (c : Clock) : (s.setMc i c).params = s.params := by cases i <;> rfl
@[simp] theorem State.setMc_echoLvl (i : ClockId) (c : Clock) : (s.setMc i c).echoLvl = s.echoLvl := by cases i <;> rfl
@[simp] theorem State.setMc_trig (i : ClockId) (c : Clock) : (s.setMc i c).trig = s.trig := by cases i <;> rfl
@[simp] theorem State.setMc_dir (i : ClockId) (c : Clock) : (s.setMc i c).dir = s.dir := by cases i <;> rfl
@[simp] theorem State.setMc_cal (i : ClockId) (c : Clock) : (s.setMc i c).cal = s.cal := by cases i <;> rfl
@[simp] theorem State.setMc_obs (i : ClockId) (c : Clock) : (s.setMc i c).obs = s.obs := by cases i <;> rfl
@[simp] theorem State.setMc_hs (i : ClockId) (c : Clock) : (s.setMc i c).hs = s.hs := by cases i <;> rfl
@[simp] theorem State.setMc_actL (i : ClockId) (c : Clock) : (s.setMc i c).actL = s.actL := by cases i <;> rfl
@[simp] theorem State.setMc_actR (i : ClockId) (c : Clock) : (s.setMc i c).actR = s.actR := by cases i <;> rfl
@[simp] theorem State.setMc_rfsm (i : ClockId) (c : Clock) : (s.setMc i c).rfsm = s.rfsm := by cases i <;> rfl
@[simp] theorem State.setMc_disp (i : ClockId) (c : Clock) : (s.setMc i c).disp = s.disp := by cases i <;> rfl
@[simp] theorem State.setMc_txp (i : ClockId) (c : Clock) : (s.setMc i c).txp = s.txp := by cases i <;> rfl
@[simp] theorem State.setMc_rngp (i : ClockId) (c : Clock) : (s.setMc i c).rngp = s.rngp := by cases i <;> rfl
@[simp] theorem State.setMc_hist (i : ClockId) (c : Clock) : (s.setMc i c).hist = s.hist := by cases i <;> rfl
@[simp] theorem State.setMc_res (i : ClockId) (c : Clock) : (s.setMc i c).res = s.res := by cases i <;> rfl
@[simp] theorem State.setMc_rxTake (i : ClockId) (c : Clock) : (s.setMc i c).rxTake = s.rxTake := by cases i <;> rfl
@[simp] theorem State.setMc_ports (i : ClockId) (c : Clock) : (s.setMc i c).ports = s.ports := by cases i <;> rfl
@[simp] theorem State.setMc_pending (i : ClockId) (c : Clock) : (s.setMc i c).pending = s.pending := by cases i <;> rfl
@[simp] theorem State.setMc_drawIdx (i : ClockId) (c : Clock) : (s.setMc i c).drawIdx = s.drawIdx := by cases i <;> rfl
@[simp] theorem State.setMc_freeIdx (i : ClockId) (c : Clock) : (s.setMc i c).freeIdx = s.freeIdx := by cases i <;> rfl

@[simp] theorem State.setAct_params (m : Motor) (a : Actuator) : (s.setAct m a).params = s.params := by cases m <;> rfl
@[simp] theorem State.setAct_mc0 (m : Motor) (a : Actuator) : (s.setAct m a).mc0 = s.mc0 := by cases m <;> rfl
@[simp] theorem State.setAct_mc1 (m : Motor) (a : Actuator) : (s.setAct m a).mc1 = s.mc1 := by cases m <;> rfl
@[simp] theorem State.setAct_echoLvl (m : Motor) (a : Actuator) : (s.setAct m a).echoLvl = s.echoLvl := by cases m <;> rfl
@[simp] theorem State.setAct_trig (m : Motor) (a : Actuator) : (s.setAct m a).trig = s.trig := by cases m <;> rfl
@[simp] theorem State.setAct_dir (m : Motor) (a : Actuator) : (s.setAct m a).dir = s.dir := by cases m <;> rfl
@[simp] theorem State.setAct_cal (m : Motor) (a : Actuator) : (s.setAct m a).cal = s.cal := by cases m <;> rfl
@[simp] theorem State.setAct_obs (m : Motor) (a : Actuator) : (s.setAct m a).obs = s.obs := by cases m <;> rfl
@[simp] theorem State.setAct_hs (m : Motor) (a : Actuator) : (s.setAct m a).hs = s.hs := by cases m <;> rfl
@[simp] theorem State.setAct_rfsm (m : Motor) (a : Actuator) : (s.setAct m a).rfsm = s.rfsm := by cases m <;> rfl
@[simp] theorem State.setAct_disp (m : Motor) (a : Actuator) : (s.setAct m a).disp = s.disp := by cases m <;> rfl
@[simp] theorem State.setAct_txp (m : Motor) (a : Actuator) : (s.setAct m a).txp = s.txp := by cases m <;> rfl
@[simp] theorem State.setAct_rngp (m : Motor) (a : Actuator) : (s.setAct m a).rngp = s.rngp := by cases m <;> rfl
@[simp] theorem State.setAct_hist (m : Motor) (a : Actuator) : (s.setAct m a).hist = s.hist := by cases m <;> rfl
@[simp] theorem State.setAct_res (m : Motor) (a : Actuator) : (s.setAct m a).res = s.res := by cases m <;> rfl
@[simp] theorem State.setAct_rxTake (m : Motor) (a : Actuator) : (s.setAct m a).rxTake = s.rxTake := by cases m <;> rfl
@[simp] theorem State.setAct_ports (m : Motor) (a : Actuator) : (s.setAct m a).ports = s.ports := by cases m <;> rfl
@[simp] theorem State.setAct_pending (m : Motor) (a : Actuator) : (s.setAct m a).pending = s.pending := by cases m <;> rfl
@[simp] theorem State.setAct_drawIdx (m : Motor) (a : Actuator) : (s.setAct m a).drawIdx = s.drawIdx := by cases m <;> rfl
@[simp] theorem State.setAct_freeIdx (m : Motor) (a : Actuator) : (s.setAct m a).freeIdx = s.freeIdx := by cases m <;> rfl

@[simp] theorem State.setMc_mc0 (c : Clock) : s.setMc .mc0 c = { s with mc0 := c } := rfl
@[simp] theorem State.setMc_mc1 (c : Clock) : s.setMc .mc1 c = { s with mc1 := c } := rfl
@[simp] theorem State.setAct_left (a : Actuator) : s.setAct .left a = { s with actL := a } := rfl
@[simp] theorem State.setAct_right (a : Actuator) : s.setAct .right a = { s with actR := a } := rfl
@[simp] theorem State.mc_mc0 : s.mc .mc0 = s.mc0 := rfl
@[simp] theorem State.mc_mc1 : s.mc .mc1 = s.mc1 := rfl
@[simp] theorem State.act_left : s.act .left = s.actL := rfl
@[simp] theorem State.act_right : s.act .right = s.actR := rfl

/-- Reading back the clock just written. -/
@[simp] theorem State.mc_setMc_same (i : ClockId) (c : Clock) : (s.setMc i c).mc i = c := by
  cases i <;> rfl

/-- Writing one clock leaves the other alone (40_clock.md R108). -/
theorem State.mc_setMc_other (i j : ClockId) (c : Clock) (h : i ≠ j) : (s.setMc i c).mc j = s.mc j := by
  cases i <;> cases j <;> first | rfl | exact absurd rfl h

/-- Reading back the actuator just written. -/
@[simp] theorem State.act_setAct_same (m : Motor) (a : Actuator) : (s.setAct m a).act m = a := by
  cases m <;> rfl

/-- Writing one actuator leaves the other alone (70_reset_and_hazards.md R266). -/
theorem State.act_setAct_other (m k : Motor) (a : Actuator) (h : m ≠ k) : (s.setAct m a).act k = s.act k := by
  cases m <;> cases k <;> first | rfl | exact absurd rfl h

@[simp] theorem Clock.start_run (c : Clock) : c.start.run = true := rfl
@[simp] theorem Clock.start_ovf (c : Clock) : c.start.ovf = c.ovf := rfl
@[simp] theorem Clock.start_cnt (c : Clock) : c.start.cnt = c.cnt := rfl
@[simp] theorem Clock.stop_run (c : Clock) : c.stop.run = false := rfl
@[simp] theorem Clock.stop_ovf (c : Clock) : c.stop.ovf = c.ovf := rfl
@[simp] theorem Clock.stop_cnt (c : Clock) : c.stop.cnt = c.cnt := rfl
@[simp] theorem Clock.clear_eq (c : Clock) : c.clear = stoppedClock := rfl

end Sys2Proof.Machine
end

