-- ==== Sys2Proof/Laws/Ops.lean ====
section
/-!
SUPPORT. What each shared operation can do, said once: the proofs cite these lemmas and do not unfold
the operations.
-/
namespace Sys2Proof.Machine

/-- A command that belongs to both roles may be issued exactly when the controller is not held. -/
theorem issueRefusal_both (s : State) : issueRefusal none s = none ↔ s.held = false := by
  cases h : s.held <;> simp [issueRefusal, h]

/-- A command of one role may be issued exactly in that role and when the controller is not held. -/
theorem issueRefusal_role (r : Role) (s : State) :
    issueRefusal (some r) s = none ↔ s.params.role = r ∧ s.held = false := by
  by_cases hr : s.params.role = r <;> cases h : s.held <;> simp [issueRefusal, hr, h]

/-- A command answers a next state exactly when it may be issued, and then with its effect. -/
theorem command_next (need : Option Role) (s t : State) (effect : State → State) :
    command need s effect = .next t ↔ issueRefusal need s = none ∧ t = effect s := by
  unfold command
  split
  · next h => simp [h]
  · next h => simp [h, eq_comm]

/-- A command of both roles runs when the controller is not held. -/
theorem command_both_runs (s : State) (effect : State → State) (h : s.held = false) :
    command none s effect = .next (effect s) :=
  (command_next _ _ _ _).2 ⟨(issueRefusal_both s).2 h, rfl⟩

/-- A command of one role runs in that role when the controller is not held. -/
theorem command_role_runs (r : Role) (s : State) (effect : State → State)
    (hr : s.params.role = r) (h : s.held = false) :
    command (some r) s effect = .next (effect s) :=
  (command_next _ _ _ _).2 ⟨(issueRefusal_role r s).2 ⟨hr, h⟩, rfl⟩

/-- A command never faults (60_exceptions.md R223). -/
theorem command_not_fault (need : Option Role) (s : State) (effect : State → State) (f : Fault) :
    command need s effect ≠ .fault f := by
  unfold command
  split <;> simp

/-- An event with a condition answers a next state exactly when the condition holds. -/
theorem eventWhen_next (b : Bool) (s t : State) (effect : State → State) :
    eventWhen b s effect = .next t ↔ b = true ∧ t = effect s := by
  cases b <;> simp [eventWhen, eq_comm]

/-- An event with a condition never faults. -/
theorem eventWhen_not_fault (b : Bool) (s : State) (effect : State → State) (f : Fault) :
    eventWhen b s effect ≠ .fault f := by
  cases b <;> simp [eventWhen]

/-- RESET answers a next state unless a REMOTE's calibration fails. -/
theorem execReset_next (s t : State) :
    execReset s = .next t ↔
      (s.params.role = .remote → ∃ c, calibrate s.params = .ok c) ∧ t = resetEffect s := by
  unfold execReset
  cases hr : s.params.role
  · simp [eq_comm]
  · cases hc : calibrate s.params <;> simp [raiseConfigError, eq_comm]

/-- On an instance whose configuration is not refused, an instruction runs as `exec` says. -/
theorem runInstr_built (i : Instr) (s : State) (h : s.params.configRefusal = none) :
    runInstr i s = exec i s := by
  simp [runInstr, h]

/-- On a refused configuration nothing but RESET is tried. -/
theorem runInstr_refused (i : Instr) (s : State) (r : ConfigReason)
    (h : s.params.configRefusal = some r) (hi : i ≠ .reset) :
    runInstr i s = .refused (.configurationRefused r) := by
  simp [runInstr, h, hi]

/-- An instruction that answers a next state did so as `exec`. -/
theorem runInstr_next (i : Instr) (s t : State) (h : runInstr i s = .next t) : exec i s = .next t := by
  unfold runInstr at h
  (repeat' split at h) <;> first | exact h | cases h

/-- A built configuration is one that nothing refuses, and its state is `State.resetOf`. -/
theorem State.build_ok (p : Params) (s : State) :
    State.build p = .ok s ↔ p.configRefusal = none ∧ s = State.resetOf p := by
  unfold State.build
  cases h : p.configRefusal <;> simp [eq_comm]

/-- A word that decodes runs as its instruction, under the stimulus's port levels. -/
theorem applyStimulus_decoded (st : Stimulus) (s : State) (i : Instr)
    (h : decode (s.spaceOf st.source) st.word = .ok i) :
    applyStimulus st s = runInstr i (s.present st) := by
  simp [applyStimulus, h]

/-- A step that answers a next state ran an instruction that its word decodes to. -/
theorem applyStimulus_next (st : Stimulus) (s t : State) (h : applyStimulus st s = .next t) :
    ∃ i, decode (s.spaceOf st.source) st.word = .ok i ∧ exec i (s.present st) = .next t := by
  unfold applyStimulus at h
  split at h
  · next i hd => exact ⟨i, hd, runInstr_next _ _ _ h⟩
  · exact absurd h (by simp)

/-- The state after the stimulus is taken differs only in the model's own two fields. -/
theorem afterTake_eq (s : State) :
    s.afterTake = { s with pending := s.afterTake.pending, drawIdx := s.afterTake.drawIdx } := by
  unfold State.afterTake
  split <;> rfl

/-- A step that answers a next state is exec of some instruction on the presented state. -/
theorem step_next (s t : State) (h : step s = .next t) :
    ∃ i, exec i (s.afterTake.present s.nextStimulus) = .next t := by
  obtain ⟨i, -, hi⟩ := applyStimulus_next _ _ _ h
  exact ⟨i, hi⟩

end Sys2Proof.Machine
end

