-- ==== Sys2Proof/Laws/Exec.lean ====
section
/-!
SUPPORT. What an instruction that answers a next state has done: its effect and the condition it ran
under, said once for all instructions.
-/
namespace Sys2Proof.Machine

/-- Every next state of `exec` is the named effect of its instruction, under its issue condition. -/
theorem exec_cases {i : Instr} {s t : State} (h : exec i s = .next t) :
   (∃ c, i = .mcStart c ∧ s.held = false ∧ t = mcStartEffect c s) ∨
   (∃ c, i = .mcStop c ∧ s.held = false ∧ t = mcStopEffect c s) ∨
   (∃ c, i = .mcReset c ∧ s.held = false ∧ t = mcResetEffect c s) ∨
   (∃ c, i = .mcRead c ∧ s.held = false ∧ t = mcReadEffect c s) ∨
   (i = .range ∧ s.params.role = .robot ∧ s.held = false ∧ t = rangeEffect s) ∨
   (∃ c, i = .encodeStick c ∧ s.params.role = .remote ∧ s.held = false ∧ t = encodeEffect c s) ∨
   (∃ c, i = .sendDrive c ∧ s.params.role = .remote ∧ s.held = false ∧ t = sendDriveEffect c s) ∨
   (i = .faultEval ∧ s.params.role = .robot ∧ s.held = false ∧ t = faultEvalEffect s) ∨
   (i = .collEval ∧ s.params.role = .robot ∧ s.held = false ∧ t = collEvalEffect s) ∨
   (∃ r, (i = .robotRxPoll ∧ r = s.ports.rx ∨ i = .ack1 ∧ r = some 0x31 ∨
       ∃ m f g, i = .driveByte m f g ∧ r = some (driveByteCode m f g)) ∧
      s.params.role = .robot ∧ s.held = false ∧ t = robotReceive r s) ∨
   (∃ r, (i = .remoteRxPoll ∧ r = s.ports.rx ∨ i = .msgClear0 ∧ r = some 0x30 ∨
       i = .msgCollision1 ∧ r = some 0x31 ∨ i = .msgObstacle2 ∧ r = some 0x32 ∨
       ∃ b, i = .msgOther b ∧ r = some b) ∧
      s.params.role = .remote ∧ s.held = false ∧ t = remoteReceive r s) ∨
   (i = .confirmPoll ∧ s.params.role = .remote ∧ s.held = false ∧ t = confirmPollEffect s) ∨
   (∃ c, (i = .tick0 ∧ c = .mc0 ∨ i = .tick1 ∧ c = .mc1) ∧ t = tickEffect c s) ∨
   (∃ l, (i = .echoRise ∧ l = true ∨ i = .echoFall ∧ l = false) ∧ t = echoSample l s) ∨
   (∃ b, i = .txAccept ∧ s.txp = some b ∧ t = txAcceptEffect s) ∨
   (i = .rangeSample ∧ s.rngp = true ∧ t = rangeSampleEffect s) ∨
   (i = .reset ∧ (s.params.role = .remote → ∃ c, calibrate s.params = .ok c) ∧ t = resetEffect s) := by
  cases i
  case driveByte m f g =>
    obtain ⟨hi, ht⟩ := (command_next _ _ _ _).1 h
    obtain ⟨hr, hh⟩ := (issueRefusal_role _ _).1 hi
    iterate 9 apply Or.inr
    exact .inl ⟨_, .inr (.inr ⟨m, f, g, rfl, rfl⟩), hr, hh, ht⟩
  all_goals
    simp only [exec, execMcStart, execMcStop, execMcReset, execMcRead, execRange, execEncode,
      execSendDrive, execFaultEval, execCollEval, execRobotRxPoll, execRemoteRxPoll,
      execConfirmPoll, execTick0, execTick1, execEchoFall, execEchoRise, execTxAccept,
      execRangeSample, execAck1, execMsgClear0, execMsgCollision1, execMsgObstacle2, execMsgOther,
      command_next, eventWhen_next, Host.Outcome.next.injEq, issueRefusal_both, issueRefusal_role,
      execReset_next] at h
    simp_all [Option.isSome_iff_exists]
  all_goals exact rfl

/-- A controller that is not held has no byte and no range pending. -/
theorem held_false_iff (s : State) : s.held = false ↔ s.txp = none ∧ s.rngp = false := by
  simp [State.held]

end Sys2Proof.Machine
end

