-- ==== Sys2Proof/Laws/Float32.lean ====
section
/-!
SUPPORT. Small facts about masking and saturation (00_scope.md R15).
-/
namespace Sys2Proof.Machine

/-- `sat8` is at most 255. -/
theorem sat8_le (n : Nat) : sat8 n ≤ 255 := Nat.min_le_right _ _

/-- `sat16` is at most 65535. -/
theorem sat16_le (n : Nat) : sat16 n ≤ 65535 := Nat.min_le_right _ _

/-- A masked byte has its two low bits clear. -/
theorem q4_low_bits (n : Nat) : q4 n &&& 3 = 0 := by
  have h : ∀ b : Byte, (b &&& 0xFC) &&& 3 = 0 := by decide
  exact h _

/-- A masked byte is at most 252. -/
theorem q4_le (n : Nat) : (q4 n).toNat ≤ 252 := by
  have h : ∀ b : Byte, (b &&& 0xFC).toNat ≤ 252 := by decide
  exact h _

/-- A duty has its two low bits clear (43_link.md R187). -/
theorem driveDuty_low_bits (b : Byte) : driveDuty b &&& 3 = 0 := by
  have h : ∀ b : Byte, (b &&& 0xFC) &&& 3 = 0 := by decide
  exact h _

/-- A distance fits 16 bits (41_range.md R125). -/
theorem distanceCm_le (e : BitVec 64) : distanceCm e ≤ 65535 := sat16_le _

end Sys2Proof.Machine
end

