-- ==== Sys2Proof/Laws/PerInstr.lean ====
section
/-!
SUPPORT. The per-instruction family `TableRow`: an instruction's encoded word has the row's fixed bits
of spec/opcode_table.json (`match` under `mask`).
-/
namespace Sys2Proof.Laws

/-- `match` and `mask` of the instruction's row of spec/opcode_table.json. -/
def rowBits : Instr → Byte × Byte
  | .mcStart _ => (0x10, 0xFE)
  | .mcStop _ => (0x20, 0xFE)
  | .mcReset _ => (0x30, 0xFE)
  | .mcRead _ => (0x40, 0xFE)
  | .range => (0x50, 0xFF)
  | .encodeStick _ => (0x60, 0xFC)
  | .sendDrive _ => (0x70, 0xFC)
  | .faultEval => (0x80, 0xFF)
  | .collEval => (0x90, 0xFF)
  | .robotRxPoll => (0xA0, 0xFF)
  | .remoteRxPoll => (0xB0, 0xFF)
  | .confirmPoll => (0xC0, 0xFF)
  | .tick0 => (0x01, 0xFF)
  | .tick1 => (0x02, 0xFF)
  | .echoFall => (0x10, 0xFF)
  | .echoRise => (0x11, 0xFF)
  | .txAccept => (0x20, 0xFF)
  | .rangeSample => (0x30, 0xFF)
  | .reset => (0xFF, 0xFF)
  | .driveByte _ _ _ => (0x00, 0x00)
  | .ack1 => (0x31, 0xFF)
  | .msgClear0 => (0x30, 0xFF)
  | .msgCollision1 => (0x31, 0xFF)
  | .msgObstacle2 => (0x32, 0xFF)
  | .msgOther _ => (0x00, 0x00)

/-- The encoded word agrees with its row's fixed bits. -/
def TableRow.Statement (i : Instr) : Prop := (encode i).2 &&& (rowBits i).2 = (rowBits i).1

namespace TableRow

theorem mcStart (i : ClockId) : Statement (.mcStart i) := by cases i <;> rfl
theorem mcStop (i : ClockId) : Statement (.mcStop i) := by cases i <;> rfl
theorem mcReset (i : ClockId) : Statement (.mcReset i) := by cases i <;> rfl
theorem mcRead (i : ClockId) : Statement (.mcRead i) := by cases i <;> rfl
theorem range : Statement .range := rfl
theorem encodeStick (mm : MotorSel) : Statement (.encodeStick mm) := by cases mm <;> rfl
theorem sendDrive (mm : MotorSel) : Statement (.sendDrive mm) := by cases mm <;> rfl
theorem faultEval : Statement .faultEval := rfl
theorem collEval : Statement .collEval := rfl
theorem robotRxPoll : Statement .robotRxPoll := rfl
theorem remoteRxPoll : Statement .remoteRxPoll := rfl
theorem confirmPoll : Statement .confirmPoll := rfl
theorem tick0 : Statement .tick0 := rfl
theorem tick1 : Statement .tick1 := rfl
theorem echoFall : Statement .echoFall := rfl
theorem echoRise : Statement .echoRise := rfl
theorem txAccept : Statement .txAccept := rfl
theorem rangeSample : Statement .rangeSample := rfl
theorem reset : Statement .reset := rfl
theorem driveByte (m : Motor) (f : Bool) (g : BitVec 6) : Statement (.driveByte m f g) := by
  simp [Statement, encode, rowBits]
theorem ack1 : Statement .ack1 := rfl
theorem msgClear0 : Statement .msgClear0 := rfl
theorem msgCollision1 : Statement .msgCollision1 := rfl
theorem msgObstacle2 : Statement .msgObstacle2 := rfl
theorem msgOther (b : Byte) : Statement (.msgOther b) := by simp [Statement, encode, rowBits]

end TableRow
end Sys2Proof.Laws
end

