-- ==== Sys2Proof/Tests/Slice0.lean ====
section
/-!
SUPPORT. Tests with the values that the spec prints (95_test_vectors.md: V1-V7, W1-W8, and the words of
30_encoding.md), the ill-formed terms that WellFormed refuses, and for every statement with hypotheses
a state that meets them.
-/
namespace Sys2Proof.Tests
open Sys2Proof Sys2Proof.Machine

-- One theorem at a time: the kernel's checks in parallel would each hold a stack of their own.
set_option Elab.async false

/-- A ROBOT under configuration T1, right after reset. -/
def robot : State := State.resetOf (Config.t1 .robot)

/-- A REMOTE under configuration T1, right after reset. -/
def remote : State := State.resetOf (Config.t1 .remote)

/-- A part of the next state, if there is one. -/
def after {α : Type} (o : StepOutcome) (f : State → α) : Option α :=
  match o with
  | .next t => some (f t)
  | .fault _ | .refused _ => none

/-- The fault, if there is one. -/
def faultOf : StepOutcome → Option Fault
  | .fault f => some f
  | .next _ | .refused _ => none

/-- The refusal, if there is one. -/
def refusalOf : StepOutcome → Option Refusal
  | .refused r => some r
  | .next _ | .fault _ => none

/-- A clock in the form of the vectors' {RUN, OVF, CNT}. -/
def clk (run : Bool) (ovf : BitVec 64) (cnt : Nat) : Clock := { run := run, ovf := ovf, cnt := cnt }

/-- A robot that offers the byte `b` to its poll. -/
def robotOffered (b : Byte) : State := { robot with ports := { Ports.idle with rx := some b } }

/-- A robot that awaits the acknowledgement and offers `r` to its poll. -/
def awaiting (r : Option Byte) : State :=
  { robot with hs := .awaitingAck, ports := { Ports.idle with rx := r } }

/-- A remote that offers the byte `b` to its poll. -/
def remoteOffered (b : Byte) : State := { remote with ports := { Ports.idle with rx := some b } }

/-- A latched remote. -/
def latched : State := { remote with rfsm := .latched, disp := .collision }

/-- A robot with a distance on its port. -/
def robotAt (d : Half) (obs : Bool) : State :=
  { robot with obs := obs, ports := { Ports.idle with opdD := d } }

/-- A robot with an acceleration on its ports. -/
def robotShaken (ax ay az : Half) : State :=
  { robot with ports := { Ports.idle with opdAx := ax, opdAy := ay, opdAz := az } }

/-- A remote with a stick sample on its ports. -/
def remoteStick (x y : Byte) (dir : Bool) : State :=
  { remote with dir := dir, ports := { Ports.idle with opdX := x, opdY := y } }

/-- T1 with other constants on X. -/
def withX (a : AxisParams) : Params := { Config.t1 .remote with x := a }

/-! ### WellFormed: one ill-formed term for each check -/

theorem test_wf_msgOther :
    (Instr.msgOther 0x30).wf = false ∧ (Instr.msgOther 0x31).wf = false ∧
    (Instr.msgOther 0x32).wf = false ∧ (Instr.msgOther 0x33).wf = true := by decide

theorem test_wf_clockParams :
    ClockParams.wf { prescaler := 0, range := 2, freq := 1 } = false ∧
    ClockParams.wf { prescaler := 1, range := 1, freq := 1 } = false ∧
    ClockParams.wf { prescaler := 1, range := 2, freq := 0 } = false ∧
    ClockParams.wf { prescaler := 1, range := 2, freq := 1 } = true := by decide

theorem test_wf_params :
    Params.wf { Config.t1 .robot with trigHighUs := 9 } = false ∧
    Params.wf { Config.t1 .robot with mc0 := { prescaler := 0, range := 256, freq := 1 } } = false ∧
    Params.wf { Config.t1 .robot with mc1 := { prescaler := 1, range := 1, freq := 1 } } = false ∧
    Params.wf (Config.t1 .robot) = true := by decide

/-! ### Decoding: every constructor's word, written out from 30_encoding.md R71-R73, R76-R79 -/

theorem test_decode_clock_commands :
    decode .cmd 0b00010000 = .ok (.mcStart .mc0) ∧ decode .cmd 0b00010001 = .ok (.mcStart .mc1) ∧
    decode .cmd 0b00100000 = .ok (.mcStop .mc0) ∧ decode .cmd 0b00100001 = .ok (.mcStop .mc1) ∧
    decode .cmd 0b00110000 = .ok (.mcReset .mc0) ∧ decode .cmd 0b00110001 = .ok (.mcReset .mc1) ∧
    decode .cmd 0b01000000 = .ok (.mcRead .mc0) ∧ decode .cmd 0b01000001 = .ok (.mcRead .mc1) := by
  decide

theorem test_decode_role_commands :
    decode .cmd 0b01010000 = .ok .range ∧
    decode .cmd 0b01100000 = .ok (.encodeStick .right) ∧
    decode .cmd 0b01100001 = .ok (.encodeStick .left) ∧
    decode .cmd 0b01100011 = .ok (.encodeStick .default3) ∧
    decode .cmd 0b01110000 = .ok (.sendDrive .right) ∧
    decode .cmd 0b01110001 = .ok (.sendDrive .left) ∧
    decode .cmd 0b01110010 = .ok (.sendDrive .default2) ∧
    decode .cmd 0b10000000 = .ok .faultEval ∧ decode .cmd 0b10010000 = .ok .collEval ∧
    decode .cmd 0b10100000 = .ok .robotRxPoll ∧ decode .cmd 0b10110000 = .ok .remoteRxPoll ∧
    decode .cmd 0b11000000 = .ok .confirmPoll := by decide

theorem test_decode_events :
    decode .evt 0b00000001 = .ok .tick0 ∧ decode .evt 0b00000010 = .ok .tick1 ∧
    decode .evt 0b00010000 = .ok .echoFall ∧ decode .evt 0b00010001 = .ok .echoRise ∧
    decode .evt 0b00100000 = .ok .txAccept ∧ decode .evt 0b00110000 = .ok .rangeSample ∧
    decode .evt 0b11111111 = .ok .reset := by decide

theorem test_decode_link_bytes :
    decode .robotRunning 0b10110011 = .ok (.driveByte .left true 0b101100) ∧
    decode .robotRunning 0b01101000 = .ok (.driveByte .right false 0b011010) ∧
    decode .robotRunning 0b00110001 = .ok (.driveByte .left false 0b001100) ∧
    decode .robotAwaiting 0b00110001 = .ok .ack1 ∧
    decode .remote 0b00110000 = .ok .msgClear0 ∧ decode .remote 0b00110001 = .ok .msgCollision1 ∧
    decode .remote 0b00110010 = .ok .msgObstacle2 ∧
    decode .remote 0b00110101 = .ok (.msgOther 0b00110101) := by decide

theorem test_decode_reserved :
    decode .cmd 0x00 = .error (.reservedCommand 0x00) ∧
    decode .cmd 0x12 = .error (.reservedCommand 0x12) ∧
    decode .cmd 0x51 = .error (.reservedCommand 0x51) ∧
    decode .cmd 0x64 = .error (.reservedCommand 0x64) ∧
    decode .cmd 0xD0 = .error (.reservedCommand 0xD0) ∧
    decode .evt 0x12 = .error (.unknownEvent 0x12) := by decide

/-! ### V1: microsecond clocks -/

theorem test_mcStart_resumes :
    after (exec (.mcStart .mc0) { robot with mc0 := clk false 3 10 }) (·.mc0) = some (clk true 3 10) := by
  decide +kernel

theorem test_mcStop :
    after (exec (.mcStop .mc0) { robot with mc0 := clk true 0 250 }) (·.mc0) = some (clk false 0 250) := by
  decide +kernel

theorem test_mcReset :
    after (exec (.mcReset .mc0) { robot with mc0 := clk true 7 99 }) (·.mc0) = some (clk false 0 0) := by
  decide +kernel

theorem test_mcRead :
    after (exec (.mcRead .mc0) { robot with mc0 := clk false 2 10 }) (·.res) = some 2088 ∧
    after (exec (.mcRead .mc0) { robot with mc0 := clk false (-1) 255 }) (·.res) = some (-4) := by
  decide +kernel

theorem test_mcRead_floors_once :
    (clk false 0 3).elapsed { prescaler := 3, range := 256, freq := 2000000 } = 4 ∧
    (clk false 1 1).elapsed { prescaler := 3, range := 256, freq := 2000000 } = 385 := by decide +kernel

theorem test_tick0_rolls_over :
    after (exec .tick0 { robot with mc0 := clk true 0 255 }) (·.mc0) = some (clk true 1 0) ∧
    after (exec .tick0 { robot with mc0 := clk true (-1) 255 }) (·.mc0) = some (clk true 0 0) := by
  decide +kernel

theorem test_tick0_counts_or_drops :
    after (exec .tick0 { robot with mc0 := clk true 0 254 }) (·.mc0) = some (clk true 0 255) ∧
    after (exec .tick0 { robot with mc0 := clk false 3 10 }) (·.mc0) = some (clk false 3 10) := by
  decide +kernel

theorem test_tick1_is_of_mc1 :
    after (exec .tick1 { robot with mc0 := clk true 0 5 }) (fun t => (t.mc0, t.mc1))
      = some (clk true 0 5, clk false 0 0) ∧
    after (exec .tick1 { robot with mc1 := clk true 1 44 }) (·.mc1) = some (clk true 1 45) := by
  decide +kernel

/-! ### V2: range finder -/

theorem test_echoRise :
    after (exec .echoRise robot) (fun t => (t.echoLvl, t.mc0)) = some (true, clk true 0 0) ∧
    after (exec .echoRise { awaiting none with echoLvl := false }) (·.mc0) = some (clk true 0 0) := by
  decide +kernel

theorem test_echoFall :
    after (exec .echoFall { robot with echoLvl := true, mc0 := clk true 0 250 })
      (fun t => (t.echoLvl, t.mc0)) = some (false, clk false 0 250) := by decide +kernel

theorem test_range_pulses :
    after (exec .range { robot with mc0 := clk false 0 250 })
      (fun t => (t.trig, t.hist, t.rngp, t.mc0)) = some (false, [.trigPulse], true, clk false 0 250) := by
  decide +kernel

theorem test_range_blocked :
    after (exec .range (awaiting none)) (fun t => (t.hist, t.rngp)) = some ([], false) := by
  decide +kernel

theorem test_rangeSample :
    after (exec .rangeSample { robot with rngp := true, mc0 := clk false 0 250 })
      (fun t => (t.res, t.rngp, t.mc0)) = some (17, false, clk false 0 0) := by decide +kernel

theorem test_rangeSample_stuck_echo :
    after (exec .rangeSample { robot with rngp := true, echoLvl := true, mc0 := clk true 7 208 })
      (fun t => (t.res, t.echoLvl, t.mc0)) = some (136, true, clk false 0 0) := by decide +kernel

theorem test_distance_table :
    [0, 40, 58, 59, 100, 1000, 1764, 1765, 8000].map distanceCm = [0, 0, 0, 1, 1, 17, 29, 30, 136] ∧
    [554647, 1000000, 3855000, 3855059, -1].map distanceCm = [9429, 17000, 65535, 65535, 65535] := by
  decide +kernel

/-! ### V3: calibration -/

theorem test_cal_records :
    cal 133 0 = .ok { min := 132, max := 0, range := 132, scale := 0x3FF64D93 } ∧
    cal 133 255 = .ok { min := 134, max := 255, range := 121, scale := 0x400658DC } ∧
    cal 133 135 = .ok { min := 134, max := 135, range := 1, scale := 0x437E0000 } ∧
    cal 0 255 = .ok { min := 1, max := 255, range := 254, scale := 0x3F800000 } ∧
    (resetCal (Config.t1 .remote)).yPos.scale = 0x400318C6 ∧
    (resetCal (Config.t1 .remote)).yNeg.scale = 0x3FFC07F0 := by decide +kernel

theorem test_cal_errors :
    cal 133 133 = .error .extEqCentre ∧ cal 133 134 = .error .zeroRange ∧
    cal 133 132 = .error .zeroRange ∧
    checkCalibration (withX { zero := 133, posExt := 0, negExt := 10 }) = some .sameSide := by
  decide +kernel

/-! ### V4 and V5: mapping, encoder -/

theorem test_mapx_table :
    ([0, 1, 2, 5, 10, 66, 100, 128, 131, 132, 133, 134, 135, 136, 200, 254, 255].map fun x =>
        (mapX remote.params remote.cal x).toNat)
      = [252, 252, 248, 244, 232, 128, 60, 8, 0, 0, 0, 0, 0, 4, 136, 252, 252] := by decide +kernel

theorem test_mapy_table :
    ([0, 1, 50, 92, 100, 121, 122, 130, 138, 139, 140, 141, 142, 143, 200, 254, 255].map fun y =>
        (mapY remote.params remote.cal y).toNat)
      = [176, 176, 108, 48, 40, 8, 0, 0, 0, 12, 12, 12, 16, 16, 96, 176, 176] := by decide +kernel

theorem test_steer_table :
    [0, 4, 8, 12, 16, 60, 128, 136, 232, 252].map steerReduction
      = [0, 0, 0, 0, 4, 16, 36, 40, 68, 72] := by decide +kernel

theorem test_binary32_exposure : mapXRecord (calRecord 100 131) 116 = 124 := by decide +kernel

theorem test_encode_rows :
    ([(133, 255, .left, false), (0, 255, .right, true), (255, 255, .left, true), (0, 0, .right, false),
      (0, 130, .left, false), (0, 135, .right, false), (66, 200, .right, true), (0, 140, .right, true),
      (0, 92, .left, true), (255, 10, .left, false)].map
        fun (r : Byte × Byte × Motor × Bool) =>
          encodedByte remote.params remote.cal r.2.2.2 r.1 r.2.1 r.2.2.1)
      = [0xB3, 0x6A, 0x6B, 0x68, 0x01, 0x00, 0x3E, 0x02, 0x31, 0x5D] := by decide +kernel

theorem test_encode_left_and_its_defaults :
    after (exec (.encodeStick .left) (remoteStick 255 0 true)) (fun t => (t.res, t.dir))
      = some (0x69, false) ∧
    after (exec (.encodeStick .default3) (remoteStick 255 255 true)) (fun t => (t.res, t.dir))
      = some (0x6B, true) := by decide +kernel

theorem test_encode_while_latched :
    after (exec (.encodeStick .right) { remoteStick 0 255 false with rfsm := .latched })
      (fun t => (t.res, t.dir, t.txp)) = some (0x6A, true, none) := by decide +kernel

theorem test_sendDrive :
    after (exec (.sendDrive .left) (remoteStick 133 255 false)) (fun t => (t.dir, t.txp, t.res, t.hist))
      = some (true, some 0xB3, 0xB3, []) := by decide +kernel

theorem test_sendDrive_latched :
    after (exec (.sendDrive .right) { remoteStick 0 255 false with rfsm := .latched })
      (fun t => (t.dir, t.txp)) = some (false, none) := by decide +kernel

/-! ### V6: link and handshake -/

theorem test_faultEval_edges :
    after (exec .faultEval (robotAt 29 false)) (fun t => (t.obs, t.txp)) = some (true, some 0x32) ∧
    after (exec .faultEval (robotAt 30 true)) (fun t => (t.obs, t.txp)) = some (false, some 0x30) := by
  decide +kernel

theorem test_faultEval_silent :
    after (exec .faultEval (robotAt 30 false)) (fun t => (t.obs, t.txp)) = some (false, none) ∧
    after (exec .faultEval { robotAt 5 false with hs := .awaitingAck }) (fun t => (t.obs, t.txp))
      = some (false, none) := by decide +kernel

theorem test_collEval_collision :
    after (exec .collEval { robotShaken 0 (-501) 1000 with actL := { dirsig := .forward, duty := 176 } })
      (fun t => (t.actL, t.actR, t.hs, t.txp))
      = some (neutralActuator, neutralActuator, .awaitingAck, some 0x31) := by decide +kernel

theorem test_collEval_no_collision :
    after (exec .collEval (robotShaken 500 (-500) 1500)) (fun t => (t.hs, t.txp))
      = some (.running, none) := by decide +kernel

theorem test_collision_is_exact :
    collides { Config.t1 .robot with accThr := 65535, accOffX := -32768, accOffZ := 0 } 32767 0 0 = false ∧
    collides (Config.t1 .robot) (-32768) 32767 (-32768) = true ∧
    collides (Config.t1 .robot) 0 0 499 = true := by decide +kernel

theorem test_robotRxPoll_running :
    after (exec .robotRxPoll (robotOffered 0x69)) (fun t => (t.actL, t.actR, t.res, t.rxTake))
      = some ({ dirsig := .reverse, duty := 104 }, neutralActuator, 0x169, true) ∧
    after (exec .robotRxPoll (robotOffered 0x31)) (fun t => (t.actL, t.hs, t.res))
      = some ({ dirsig := .reverse, duty := 48 }, .running, 0x131) := by decide +kernel

theorem test_robotRxPoll_awaiting :
    after (exec .robotRxPoll (awaiting (some 0xB3))) (fun t => (t.actL, t.hs, t.res))
      = some (neutralActuator, .awaitingAck, 0x1B3) ∧
    after (exec .robotRxPoll (awaiting (some 0x31))) (fun t => (t.actL, t.hs, t.res))
      = some (neutralActuator, .running, 0x131) := by decide +kernel

theorem test_remoteRxPoll_collision :
    after (exec .remoteRxPoll (remoteOffered 0x31)) (fun t => (t.disp, t.rfsm, t.res))
      = some (.collision, .latched, 0x131) := by decide +kernel

theorem test_remoteRxPoll_latched :
    after (exec .remoteRxPoll { latched with ports := { Ports.idle with rx := some 0x30 } })
      (fun t => (t.disp, t.rfsm, t.res, t.rxTake)) = some (.collision, .latched, 0, false) := by
  decide +kernel

theorem test_confirmPoll :
    after (exec .confirmPoll { latched with ports := { Ports.idle with confirm := true } })
      (fun t => (t.disp, t.rfsm, t.txp)) = some (.clear, .idle, some 0x31) ∧
    after (exec .confirmPoll { remote with ports := { Ports.idle with confirm := true } })
      (fun t => (t.disp, t.rfsm, t.txp)) = some (.clear, .idle, none) := by decide +kernel

theorem test_txAccept :
    after (exec .txAccept { robot with hist := [.trigPulse], txp := some 0x32 }) (fun t => (t.hist, t.txp))
      = some ([.trigPulse, .tx 0x32], none) := by decide +kernel

theorem test_driveByte :
    after (exec (.driveByte .left true 0b101100) robot) (fun t => (t.actL, t.actR, t.res))
      = some ({ dirsig := .forward, duty := 176 }, neutralActuator, 0x1B3) ∧
    after (exec (.driveByte .right false 0) robot) (fun t => (t.actL, t.actR, t.res))
      = some (neutralActuator, { dirsig := .reverse, duty := 0 }, 0x100) := by decide +kernel

theorem test_ack1 :
    after (exec .ack1 (awaiting none)) (fun t => (t.hs, t.actL, t.res))
      = some (.running, neutralActuator, 0x131) := by decide +kernel

theorem test_msgClear0 :
    after (exec .msgClear0 { remote with disp := .obstacle }) (fun t => (t.disp, t.rfsm, t.res))
      = some (.clear, .idle, 0x130) := by decide +kernel

theorem test_msgCollision1 :
    after (exec .msgCollision1 remote) (fun t => (t.disp, t.rfsm, t.res))
      = some (.collision, .latched, 0x131) := by decide +kernel

theorem test_msgObstacle2 :
    after (exec .msgObstacle2 remote) (fun t => (t.disp, t.rfsm, t.res))
      = some (.obstacle, .idle, 0x132) := by decide +kernel

theorem test_msgOther :
    after (exec (.msgOther 0x35) remote) (fun t => (t.disp, t.rfsm, t.res))
      = some (.commError, .idle, 0x135) := by decide +kernel

/-! ### V7: reset -/

theorem test_reset_robot :
    after (exec .reset { awaiting none with txp := some 0x31, mc0 := clk true 5 7, hist := [.trigPulse] })
      (fun t => (t.mc0, t.hs, t.txp, t.hist)) = some (clk false 0 0, .running, none, []) := by
  decide +kernel

theorem test_reset_refuses_a_bad_configuration :
    faultOf (exec .reset { remote with params := withX { zero := 133, posExt := 0, negExt := 134 } })
      = some (.configError .zeroRange) := by decide +kernel

/-! ### The step and the host's placing -/

theorem test_reset_is_built : State.build Config.resetParams = .ok State.reset := rfl

/-- A remote whose constants are refused: it is not built, no command runs, and RESET says why. -/
theorem test_refused_configuration :
    State.build (withX { zero := 133, posExt := 0, negExt := 134 }) = .error .zeroRange ∧
    refusalOf (applyStimulus { source := .cmd, word := 0x10, ports := Ports.idle }
      { remote with params := withX { zero := 133, posExt := 0, negExt := 134 } })
      = some (.configurationRefused .zeroRange) ∧
    faultOf (applyStimulus { source := .evt, word := 0xFF, ports := Ports.idle }
      { remote with params := withX { zero := 133, posExt := 0, negExt := 134 } })
      = some (.configError .zeroRange) := by decide +kernel

/-- ENCODE L with the sample x = 133, y = 255. -/
def stickStimulus : Stimulus :=
  { source := .cmd, word := 0x61, ports := { Ports.idle with opdX := 133, opdY := 255 } }

theorem test_step_runs_the_first_stimulus :
    after (step { remote with pending := [stickStimulus] })
      (fun t => (t.res, t.dir, t.pending)) = some (0xB3, true, []) := by decide +kernel

theorem test_placed_words :
    after (step (State.reset.withFetchWord 8 0x11)) (·.mc1) = some (clk true 0 0) ∧
    after (step (State.reset.withFetchWord 8 0xB0)) (·.res) = some 0 ∧
    after (step (State.reset.withFetchWord 8 0x32)) (·.disp) = some .obstacle ∧
    after (step (State.reset.withFetchWord 8 0xFE)) (·.actR) = some { dirsig := .forward, duty := 252 } := by
  decide +kernel

/-! ### Witnesses: states and operands that meet the statements' hypotheses, clause by clause -/

/-- A robot whose MC0 runs at the last count before the rollover. -/
def atRollover : State := { robot with mc0 := clk true 0 255, mc1 := clk true 0 255 }

/-- A stimulus on the command port. -/
def cmdStimulus (w : Byte) (env : Ports) : Stimulus := { source := .cmd, word := w, ports := env }

/-- A stimulus of an event. -/
def evtStimulus (tag : Byte) : Stimulus := { source := .evt, word := tag, ports := Ports.idle }

/-- Parameters whose axes can be mirrored about 128. -/
def mirrorable : Params :=
  { withX { zero := 128, posExt := 1, negExt := 255 } with y := { zero := 128, posExt := 255, negExt := 1 } }

/-- Legal X constants with the shortest and the longest legal direction. -/
def steep : AxisParams := { zero := 2, posExt := 255, negExt := 0 }

/-- For the statements about MC_START, MC_STOP, MC_RESET and MC_READ. -/
theorem witness_command_of_both_roles : robot.held = false ∧ remote.held = false := by decide +kernel

theorem witness_ElapsedIsCountTimesTick :
    1 ≤ (Config.t1 .robot).mc0.freq ∧
    (Config.t1 .robot).mc0.prescaler * 1000000 = 4 * (Config.t1 .robot).mc0.freq := by decide

theorem witness_TimerTick :
    robot.mc0.run = false ∧ robot.mc1.run = false ∧
    atRollover.mc0.run = true ∧ atRollover.mc0.cnt + 1 = atRollover.params.mc0.range ∧
    atRollover.mc1.run = true ∧ atRollover.mc1.cnt + 1 = atRollover.params.mc1.range ∧
    (clk true 0 254).run = true ∧ (clk true 0 254).cnt + 1 ≠ robot.params.mc0.range ∧
    (clk true 0 254).cnt + 1 ≠ robot.params.mc1.range := by decide +kernel

theorem witness_ClockNeverRunsBackward :
    (∃ t, exec .tick0 atRollover = .next t) ∧ (∃ t, exec .tick1 atRollover = .next t) ∧
    Instr.tick0 ≠ .mcReset .mc0 ∧ Instr.tick0 ≠ .reset ∧ Instr.tick0 ≠ .rangeSample ∧
    Instr.rangeSample ≠ .mcReset .mc1 ∧ ClockId.mc1 ≠ .mc0 ∧
    (∃ t, exec .rangeSample { atRollover with rngp := true } = .next t) ∧
    atRollover.mc0.run = true ∧ atRollover.mc0.ovf ≠ BitVec.allOnes 64 ∧
    atRollover.mc1.run = true ∧ atRollover.mc1.ovf ≠ BitVec.allOnes 64 :=
  ⟨⟨_, rfl⟩, ⟨_, rfl⟩, by decide, by decide, by decide, by decide, by decide, ⟨_, rfl⟩,
    by decide +kernel, by decide +kernel, by decide +kernel, by decide +kernel⟩

theorem witness_OnlyItsOwnInstructionsChangeAClock :
    (∃ t, exec .tick0 atRollover = .next t ∧ t.mc0 ≠ atRollover.mc0) ∧
    ∃ t, exec .tick1 atRollover = .next t ∧ t.mc1 ≠ atRollover.mc1 :=
  ⟨⟨_, rfl, by decide +kernel⟩, ⟨_, rfl, by decide +kernel⟩⟩

/-- For the echo edges at a robot and at a remote, and for the commands of the other role. -/
theorem witness_EchoEdges :
    robot.params.role = .robot ∧ robot.echoLvl = false ∧ remote.params.role = .remote ∧
    { robot with echoLvl := true }.params.role = .robot ∧ { robot with echoLvl := true }.echoLvl = true := by
  decide +kernel

theorem witness_Range :
    robot.params.role = .robot ∧ robot.held = false ∧ robot.hs = .running ∧
    (awaiting none).params.role = .robot ∧ (awaiting none).held = false ∧
    (awaiting none).hs = .awaitingAck := by decide +kernel

theorem witness_RangeSample : { robot with rngp := true }.rngp = true ∧ robot.rngp = false := by
  decide +kernel

theorem witness_Distance :
    (3854999 : BitVec 64).toNat ≤ (3855000 : BitVec 64).toNat ∧ (3854999 : BitVec 64).toNat < 3855000 ∧
    3855000 ≤ (3855000 : BitVec 64).toNat := by decide

/-- Half of the smallest binary32 value is as near to 0 as to that value. -/
theorem witness_BinaryRounding :
    0 < 2 ∧ 1 < (2 ^ 25 - 1) * 2 ^ 252 * 2 ∧ f32Exponent 1 < 255 ∧
    ((f32Units (f32OfUnits 1 2) * 2 : Int) - 1).natAbs = ((f32Units 1 * 2 : Int) - 1).natAbs := by
  decide +kernel

/-- A remote with other constants on X. -/
def remoteWithX (a : AxisParams) : State := { remote with params := withX a }

/-- For the reason of ConfigError, for the faults, and for an illegal remote configuration. -/
theorem witness_ConfigErrorReasons :
    exec .reset (remoteWithX { zero := 133, posExt := 133, negExt := 255 })
      = .fault (.configError .extEqCentre) ∧
    exec .reset (remoteWithX { zero := 133, posExt := 132, negExt := 255 })
      = .fault (.configError .zeroRange) ∧
    exec .reset (remoteWithX { zero := 133, posExt := 131, negExt := 0 })
      = .fault (.configError .sameSide) := ⟨rfl, rfl, rfl⟩

theorem witness_LegalConfiguration :
    checkCalibration (withX steep) = none ∧ (calMin 2 0 = 1 ∧ calMin 2 255 = 3) := by decide +kernel

theorem witness_Sides :
    sideX remote.params 133 = .centre ∧ sideX remote.params 132 = .pos ∧ sideX remote.params 134 = .neg ∧
    sideY remote.params 122 = .centre ∧ sideY remote.params 138 = .centre ∧
    sideY remote.params 139 = .pos ∧ sideY remote.params 121 = .neg := by decide +kernel

theorem witness_Blend :
    (252 : Byte).toNat ≤ 252 ∧ (0 : Byte).toNat ≤ 252 ∧ sideY remote.params 138 = .centre ∧
    sideY remote.params 139 ≠ .centre ∧
    (Motor.left = .left ∧ sideX remote.params 134 = .neg) ∧
    (Motor.right = .right ∧ sideX remote.params 132 = .pos) ∧
    ¬ ((Motor.left = .left ∧ sideX remote.params 133 = .neg) ∨
      (Motor.left = .right ∧ sideX remote.params 133 = .pos)) := by decide +kernel

theorem witness_ExtremeSample : 2 ≤ |((135 : Byte).toNat : Int) - (133 : Byte).toNat| := by decide

theorem witness_FifteenPairs : 1 ≤ 254 ∧ 254 ≤ 254 ∧ 255 ≤ 255 ∧ 1 ≤ 1 ∧ 1 ≤ 254 := by decide

theorem witness_Encode :
    (remoteStick 0 255 false).params.role = .remote ∧ (remoteStick 0 255 false).held = false ∧
    sideY remote.params 255 = .pos ∧ sideY remote.params 0 = .neg ∧ sideY remote.params 130 = .centre := by
  decide +kernel

theorem witness_NeutralY :
    (remoteStick 0 122 true).params.role = .remote ∧ (remoteStick 0 122 true).held = false ∧
    |((122 : Byte).toNat : Int) - remote.params.y.zero.toNat| ≤ remote.params.yZeroOffset.toNat ∧
    |((138 : Byte).toNat : Int) - remote.params.y.zero.toNat| ≤ remote.params.yZeroOffset.toNat := by
  decide +kernel

theorem witness_SendDrive :
    remote.params.role = .remote ∧ remote.held = false ∧ remote.rfsm = .idle ∧
    (∃ t, exec (.encodeStick .left) remote = .next t) ∧
    latched.params.role = .remote ∧ latched.held = false ∧ latched.rfsm = .latched :=
  ⟨rfl, rfl, rfl, ⟨_, rfl⟩, rfl, rfl, rfl⟩

theorem witness_Mirroring :
    checkCalibration mirrorable = none ∧
    ((255 : Byte).toNat : Int) = 2 * mirrorable.x.zero.toNat - mirrorable.x.posExt.toNat ∧
    ((1 : Byte).toNat : Int) = 2 * mirrorable.x.zero.toNat - mirrorable.x.negExt.toNat ∧
    ((246 : Byte).toNat : Int) = 2 * mirrorable.x.zero.toNat - (10 : Byte).toNat ∧
    ((1 : Byte).toNat : Int) = 2 * mirrorable.y.zero.toNat - mirrorable.y.posExt.toNat ∧
    ((255 : Byte).toNat : Int) = 2 * mirrorable.y.zero.toNat - mirrorable.y.negExt.toNat ∧
    ((246 : Byte).toNat : Int) = 2 * mirrorable.y.zero.toNat - (10 : Byte).toNat := by decide +kernel

theorem witness_WorkedExample :
    (Config.t1 .remote).x = { zero := 133, posExt := 0, negExt := 255 } ∧
    checkCalibration (Config.t1 .remote) = none := by decide +kernel

theorem witness_FaultEval :
    (robotAt 29 false).held = false ∧ (robotAt 29 false).params.role = .robot ∧
    (robotAt 29 false).hs = .running ∧
    (robotAt 29 false).ports.opdD.toNat < robot.params.distLimit.toNat ∧ (robotAt 29 false).obs = false ∧
    robot.params.distLimit.toNat ≤ (robotAt 30 true).ports.opdD.toNat ∧ (robotAt 30 true).obs = true ∧
    ((robotAt 30 false).ports.opdD.toNat < robot.params.distLimit.toNat ↔ (robotAt 30 false).obs = true) ∧
    (awaiting none).hs = .awaitingAck := by decide +kernel

theorem witness_Collision :
    (robotShaken 501 0 1000).params.role = .robot ∧ (robotShaken 501 0 1000).held = false ∧
    (robotShaken 501 0 1000).hs = .running ∧
    (robot.params.accThr.toNat : Int) < |(501 : Half).toInt - robot.params.accOffX.toInt| ∧
    ¬ ((robot.params.accThr.toNat : Int) < |(500 : Half).toInt - robot.params.accOffX.toInt|) ∧
    (awaiting none).held = false ∧ (awaiting none).hs = .awaitingAck := by decide +kernel

theorem witness_RobotPoll :
    robot.ports.rx = none ∧ (robotOffered 0xB3).params.role = .robot ∧ (robotOffered 0xB3).held = false ∧
    (robotOffered 0xB3).ports.rx = some 0xB3 ∧ (robotOffered 0xB3).hs = .running ∧
    (0xB3 : Byte).getLsbD 0 = true ∧ (0x6A : Byte).getLsbD 0 = false ∧
    (awaiting (some 0x31)).ports.rx = some 0x31 ∧ (awaiting (some 0x31)).held = false ∧
    (awaiting (some 0x30)).ports.rx = some 0x30 ∧ (0x30 : Byte) ≠ 0x31 := by decide +kernel

theorem witness_RemotePoll :
    (remoteOffered 0x33).params.role = .remote ∧ (remoteOffered 0x33).held = false ∧
    (remoteOffered 0x33).rfsm = .idle ∧ (remoteOffered 0x33).ports.rx = some 0x33 ∧
    (0x33 : Byte) ≠ 0x30 ∧ (0x33 : Byte) ≠ 0x31 ∧ (0x33 : Byte) ≠ 0x32 ∧
    (remoteOffered 0x30).ports.rx = some 0x30 ∧ (remoteOffered 0x31).ports.rx = some 0x31 ∧
    (remoteOffered 0x32).ports.rx = some 0x32 ∧ latched.rfsm = .latched ∧ remote.ports.rx = none := by
  decide +kernel

theorem witness_ConfirmPoll :
    latched.params.role = .remote ∧ latched.held = false ∧ latched.rfsm = .latched ∧
    { latched with ports := { Ports.idle with confirm := true } }.ports.confirm = true ∧
    latched.ports.confirm = false ∧ remote.rfsm = .idle := by decide +kernel

theorem witness_TxAccept : { robot with txp := some 0x32 }.txp = some 0x32 ∧ robot.txp = none := by
  decide +kernel

theorem witness_LinkBytesAtTheRobot :
    robot.params.role = .robot ∧ robot.held = false ∧ robot.hs = .running ∧
    (awaiting none).params.role = .robot ∧ (awaiting none).held = false ∧
    (awaiting none).hs = .awaitingAck ∧
    driveByteCode .left false 12 = 0x31 ∧ driveByteCode .left true 44 ≠ 0x31 := by decide +kernel

theorem witness_LinkBytesAtTheRemote :
    remote.params.role = .remote ∧ remote.held = false ∧ remote.rfsm = .idle ∧
    (Instr.msgOther 0xFF).wf = true ∧ (Instr.msgOther 0x33).wf = true ∧ latched.held = false ∧ latched.rfsm = .latched := by decide +kernel

theorem witness_HandshakeEnds :
    ∃ t, exec .ack1 (awaiting none) = .next t ∧ (awaiting none).hs = .awaitingAck ∧ t.hs = .running :=
  ⟨_, rfl, rfl, rfl⟩

theorem witness_OutputsStandStill :
    ∃ t, exec .txAccept { awaiting none with txp := some 0x31 } = .next t ∧
      (awaiting none).params.role = .robot ∧ (awaiting none).hs = .awaitingAck ∧
      Instr.txAccept ≠ .reset ∧ t.hist = [] ++ [.tx 0x31] :=
  ⟨_, rfl, rfl, rfl, by decide, rfl⟩

theorem witness_ActuatorWriters :
    (∃ t, exec (.driveByte .left true 44) robot = .next t ∧ t.actL ≠ robot.actL) ∧
    ∃ t, exec (.driveByte .right true 44) robot = .next t ∧ t.actR ≠ robot.actR :=
  ⟨⟨_, rfl, by decide +kernel⟩, ⟨_, rfl, by decide +kernel⟩⟩

/-- A latched remote whose operator confirms. -/
def confirmed : State := { latched with ports := { Ports.idle with confirm := true } }

theorem witness_LatchedRemote :
    ∃ t, exec .confirmPoll confirmed = .next t ∧ confirmed.params.role = .remote ∧
      confirmed.rfsm = .latched ∧ t.txp ≠ confirmed.txp :=
  ⟨_, rfl, rfl, rfl, by decide +kernel⟩

/-- A robot about to evaluate a distance below the limit. -/
def nearObstacle : State :=
  { robot with pending := [cmdStimulus 0x80 { Ports.idle with opdD := 29 }] }

theorem witness_EdgeTrigger : nearObstacle.edgeTriggered ∧ ∃ t, step nearObstacle = .next t :=
  ⟨fun _ => ⟨by decide +kernel, by decide +kernel⟩, ⟨_, rfl⟩⟩

theorem witness_CommandDuringAHold :
    (encode (.mcRead .mc0)).1 = .cmd ∧ instrRole (.mcRead .mc0) = none ∧
    (encode .range).1 = .cmd ∧ instrRole .range = some robot.params.role ∧
    { robot with txp := some 0x32 }.txp.isSome = true ∧ { robot with rngp := true }.rngp = true := by
  decide +kernel

theorem witness_ReservedWord :
    (cmdStimulus 0xD0 Ports.idle).source = .cmd ∧
    decode .cmd (cmdStimulus 0xD0 Ports.idle).word = .error (.reservedCommand 0xD0) ∧
    { robot with pending := [cmdStimulus 0xD0 Ports.idle] }.pending = [cmdStimulus 0xD0 Ports.idle] := by
  decide +kernel

/-- For RESET at both roles and for a legal remote configuration. -/
theorem witness_Reset :
    robot.params.role = .robot ∧ checkCalibration remote.params = none ∧
    (∃ t, exec .reset robot = .next t) ∧ ∃ t, exec .reset remote = .next t :=
  ⟨rfl, by decide +kernel, ⟨_, rfl⟩, ⟨_, rfl⟩⟩

/-- For the history, the parameters and the calibration file. -/
theorem witness_HistoryAndParameters :
    (∃ t, exec .range robot = .next t) ∧ Instr.range ≠ .reset ∧ ∃ t, exec .reset robot = .next t :=
  ⟨⟨_, rfl⟩, by decide, ⟨_, rfl⟩⟩

theorem witness_StepRuns :
    nearObstacle.pending = [cmdStimulus 0x80 { Ports.idle with opdD := 29 }] ∧
    decode (nearObstacle.spaceOf (cmdStimulus 0x80 Ports.idle).source) 0x80 = .ok .faultEval ∧
    robot.pending = [] ∧ robot.params.configRefusal = none ∧ remote.params.configRefusal = none ∧
    (withX { zero := 133, posExt := 0, negExt := 134 }).configRefusal = some .zeroRange ∧
    Instr.faultEval ≠ .reset := by decide +kernel

theorem witness_PlacedWord :
    decodeTableWord 8 0x60 = some (.encodeStick .right) ∧ instrRole (.encodeStick .right) = some .remote ∧
    { robot.params with role := .remote }.configRefusal = none ∧
    decodeTableWord 8 0x10 = some (.mcStart .mc0) ∧ instrRole (.mcStart .mc0) = none ∧
    robot.params.configRefusal = none := by decide +kernel

theorem witness_EncodeInvertsDecode : decode .remote 0x33 = .ok (.msgOther 0x33) := by decide

/-- A state of the invariant with a step before it. -/
theorem witness_Invariant : nearObstacle.Inv ∧ ∃ t, step nearObstacle = .next t := by
  refine ⟨?_, ⟨_, rfl⟩⟩
  constructor
  · exact ⟨by decide +kernel, by decide +kernel⟩
  all_goals decide +kernel

theorem witness_LegalInstances : Params.legal (Config.t1 .robot) ∧ Params.legal (Config.t1 .remote) :=
  ⟨⟨by decide, by decide +kernel⟩, ⟨by decide, by decide +kernel⟩⟩

theorem witness_RobotTick :
    (∃ n, robotNodeStep (.issue Ports.idle) { core := robot, place := .collEval } = .next n) ∧
    (∃ n, robotNodeStep (.issue Ports.idle) { core := awaiting none, place := .awaitAck } = .next n) ∧
    (∃ n, robotNodeStep (.issue Ports.idle) { core := robot, place := .range } = .next n) ∧
    (∃ n, robotNodeStep (.issue Ports.idle) { core := robot, place := .faultEval } = .next n) ∧
    ∃ n, robotNodeStep (.issue Ports.idle) { core := robot, place := .drainRx } = .next n :=
  ⟨⟨_, rfl⟩, ⟨_, rfl⟩, ⟨_, rfl⟩, ⟨_, rfl⟩, ⟨_, rfl⟩⟩

theorem witness_RemoteTick :
    (∃ n, remoteNodeStep (.issue Ports.idle)
      { core := remote, place := .sendLeft, sampleX := 0, sampleY := 0 } = .next n) ∧
    (∃ n, remoteNodeStep (.issue Ports.idle)
      { core := remote, place := .sendRight, sampleX := 0, sampleY := 255 } = .next n) ∧
    (∃ n, remoteNodeStep (.issue Ports.idle)
      { core := remote, place := .rxPoll, sampleX := 0, sampleY := 0 } = .next n) ∧
    ∃ n, remoteNodeStep (.issue Ports.idle)
      { core := latched, place := .awaitConfirm, sampleX := 0, sampleY := 0 } = .next n :=
  ⟨⟨_, rfl⟩, ⟨_, rfl⟩, ⟨_, rfl⟩, ⟨_, rfl⟩⟩

/-- Two nodes under T1 with two drive bytes on their way to the robot. -/
def twoNodes (ch : ChModel) : TwoNodes :=
  { channel := ch, robot := robot, remote := remote, toRobot := [0xB3, 0x6A], toRemote := [] }

/-- For TX_ACCEPT and RESET in the two-node system. -/
theorem witness_TwoNodeEvents :
    ({ twoNodes .reliable with remote := { remote with txp := some 0xB2 } }.core .remote).txp = some 0xB2 ∧
    remote.params.configRefusal = none ∧
    ∃ T, systemStep (.event .robot 0xFF Ports.idle) (twoNodes .reliable) = .next T :=
  ⟨rfl, rfl, ⟨_, rfl⟩⟩

/-- A poll that consumes, one that is offered nothing, an acceptance, another event, a loss and an
alteration. -/
theorem witness_Channels :
    (∃ T, systemStep (.command .robot 0xA0 Ports.idle true) (twoNodes .reliable) = .next T ∧
      (T.core .robot).rxTake = true) ∧
    (∃ T, systemStep (.command .robot 0xA0 Ports.idle false) (twoNodes .reliable) = .next T ∧
      (T.core .robot).rxTake = false) ∧
    (∃ T, systemStep (.event .robot 0x20 Ports.idle)
      { twoNodes .reliable with robot := { robot with txp := some 0x32 } } = .next T) ∧
    (∃ T, systemStep (.event .robot 0x01 Ports.idle) (twoNodes .reliable) = .next T) ∧
    (∃ T, systemStep (.lose .robot 1) (twoNodes .lossy) = .next T) ∧
    ∃ T, systemStep (.alter .robot 1 0x31) (twoNodes .any) = .next T :=
  ⟨⟨_, rfl, rfl⟩, ⟨_, rfl, rfl⟩, ⟨_, rfl⟩, ⟨_, rfl⟩, ⟨_, rfl⟩, ⟨_, rfl⟩⟩

end Sys2Proof.Tests
end

section
/-!
PROOFS. Binary32 rounding (00_scope.md R15). `f32OfUnits n d` rounds `n / d` to a whole number of steps
`2 ^ k` of the binade that holds it. It is nearest among all binary32 values because each of them either is
a whole number of those steps too, or lies below that binade.
-/
namespace Sys2Proof.Machine

/-! ### The whole number nearest a fraction -/

/-- The remainder decides: the error is at most half, and exactly half only at an even result. -/
theorem roundHalfEven_error (n d : Nat) (hd : 0 < d) :
    2 * n ≤ 2 * (roundHalfEven n d * d) + d ∧ 2 * (roundHalfEven n d * d) ≤ 2 * n + d ∧
    (2 * n = 2 * (roundHalfEven n d * d) + d ∨ 2 * (roundHalfEven n d * d) = 2 * n + d →
      roundHalfEven n d % 2 = 0) := by
  have hdiv : n / d * d + n % d = n := Nat.div_add_mod' n d
  have hmod : n % d < d := Nat.mod_lt n hd
  have hup : (n / d + 1) * d = n / d * d + d := Nat.succ_mul _ _
  simp only [roundHalfEven, Bool.or_eq_true, Bool.and_eq_true, beq_iff_eq, decide_eq_true_eq]
  split
  case isTrue h => rw [hup]; omega
  case isFalse h => omega

theorem le_roundHalfEven {n d a : Nat} (hd : 0 < d) (h : a * d ≤ n) : a ≤ roundHalfEven n d := by
  obtain ⟨hlow, -, -⟩ := roundHalfEven_error n d hd
  by_contra hlt
  have hstep : (roundHalfEven n d + 1) * d ≤ a * d := Nat.mul_le_mul_right d (by omega)
  rw [Nat.succ_mul] at hstep
  omega

theorem roundHalfEven_le {n d a : Nat} (hd : 0 < d) (h : 2 * n < 2 * (a * d) + d) :
    roundHalfEven n d ≤ a := by
  obtain ⟨-, hhigh, -⟩ := roundHalfEven_error n d hd
  by_contra hlt
  have hstep : (a + 1) * d ≤ roundHalfEven n d * d := Nat.mul_le_mul_right d (by omega)
  rw [Nat.succ_mul] at hstep
  omega

/-- Another whole number is a whole `d` away from the rounded one, which is at most `d / 2` from `n`. -/
theorem roundHalfEven_nearest (n d j : Nat) (hd : 0 < d) :
    (((roundHalfEven n d * d : Nat) : Int) - n).natAbs ≤ (((j * d : Nat) : Int) - n).natAbs ∧
    ((((roundHalfEven n d * d : Nat) : Int) - n).natAbs = (((j * d : Nat) : Int) - n).natAbs →
      j = roundHalfEven n d ∨ roundHalfEven n d % 2 = 0) := by
  obtain ⟨hlow, hhigh, htie⟩ := roundHalfEven_error n d hd
  rcases Nat.lt_trichotomy j (roundHalfEven n d) with hlt | heq | hgt
  · have hstep : (j + 1) * d ≤ roundHalfEven n d * d := Nat.mul_le_mul_right d hlt
    rw [Nat.succ_mul] at hstep
    omega
  · exact heq ▸ ⟨le_rfl, fun _ => .inl rfl⟩
  · have hstep : (roundHalfEven n d + 1) * d ≤ j * d := Nat.mul_le_mul_right d hgt
    rw [Nat.succ_mul] at hstep
    omega

/-! ### The binade of a fraction -/

theorem lt_f32Step_binade_top (n d : Nat) (hd : 0 < d) : n < 2 ^ 24 * (d * 2 ^ f32Step n d) := by
  have hlog : n / d < 2 ^ (Nat.log2 (n / d) + 1) := Nat.lt_log2_self
  have hpow : 2 ^ (Nat.log2 (n / d) + 1) ≤ 2 ^ (24 + f32Step n d) :=
    Nat.pow_le_pow_right (by omega) (by unfold f32Step; omega)
  have hn : n < 2 ^ (24 + f32Step n d) * d := (Nat.div_lt_iff_lt_mul hd).mp (hlog.trans_le hpow)
  calc n < 2 ^ (24 + f32Step n d) * d := hn
    _ = 2 ^ 24 * (d * 2 ^ f32Step n d) := by rw [pow_add]; ring

theorem f32Step_binade_bottom_le (n d : Nat) (hk : f32Step n d ≠ 0) :
    2 ^ 23 * (d * 2 ^ f32Step n d) ≤ n := by
  have hexp : 23 + f32Step n d = Nat.log2 (n / d) := by unfold f32Step at hk ⊢; omega
  have hq : n / d ≠ 0 := by
    intro h
    simp [f32Step, h] at hk
  calc 2 ^ 23 * (d * 2 ^ f32Step n d) = 2 ^ (23 + f32Step n d) * d := by rw [pow_add]; ring
    _ = 2 ^ Nat.log2 (n / d) * d := by rw [hexp]
    _ ≤ n / d * d := Nat.mul_le_mul_right d (Nat.log2_self_le hq)
    _ ≤ n := Nat.div_mul_le_self n d

/-- The significand `f32OfUnits` gives `n / d`: the fraction in steps of its binade, rounded. -/
def f32Significand (n d : Nat) : Nat := roundHalfEven n (d * 2 ^ f32Step n d)

theorem f32Significand_le (n d : Nat) (hd : 0 < d) : f32Significand n d ≤ 2 ^ 24 := by
  have htop := lt_f32Step_binade_top n d hd
  exact roundHalfEven_le (by positivity) (by omega)

theorem le_f32Significand (n d : Nat) (hd : 0 < d) :
    f32Step n d = 0 ∨ 2 ^ 23 ≤ f32Significand n d :=
  or_iff_not_imp_left.mpr fun hk => le_roundHalfEven (by positivity) (f32Step_binade_bottom_le n d hk)

/-- Below the overflow threshold the rounded pattern is below that of infinity: only in the last binade,
of step 253, does this need the threshold's half step. -/
theorem f32OfUnits_bits_lt (n d : Nat) (hd : 0 < d) (hn : n < (2 ^ 25 - 1) * 2 ^ 252 * d) :
    f32Step n d * 2 ^ 23 + f32Significand n d < 255 * 2 ^ 23 := by
  have hsig := f32Significand_le n d hd
  rcases Nat.lt_trichotomy (f32Step n d) 253 with hlt | heq | hgt
  · omega
  · have htwice : 2 * n < 2 * ((2 ^ 24 - 1) * (d * 2 ^ f32Step n d)) + d * 2 ^ f32Step n d := by
      rw [heq]; omega
    have hlast : f32Significand n d ≤ 2 ^ 24 - 1 := roundHalfEven_le (by positivity) htwice
    omega
  · have hbot := f32Step_binade_bottom_le n d (by omega)
    have hpow : d * 2 ^ 254 ≤ d * 2 ^ f32Step n d :=
      Nat.mul_le_mul_left d (Nat.pow_le_pow_right (by omega) hgt)
    omega

/-! ### Patterns and their values -/

theorem f32Exponent_ofNat {b : Nat} (h : b < 255 * 2 ^ 23) :
    f32Exponent (BitVec.ofNat 32 b) = b / 2 ^ 23 := by
  simp only [f32Exponent, BitVec.extractLsb'_toNat, BitVec.toNat_ofNat, Nat.shiftRight_eq_div_pow]
  omega

theorem f32Fraction_ofNat (b : Nat) : f32Fraction (BitVec.ofNat 32 b) = b % 2 ^ 23 := by
  simp only [f32Fraction, BitVec.extractLsb'_toNat, BitVec.toNat_ofNat, Nat.shiftRight_eq_div_pow]
  omega

theorem f32Fraction_lt (f : F32) : f32Fraction f < 2 ^ 23 := BitVec.isLt _

/-- A significand of `2 ^ 24`, which rounding up can give, carries into the exponent field. -/
theorem f32Units_ofNat {k m : Nat} (hm : m ≤ 2 ^ 24) (hk : k = 0 ∨ 2 ^ 23 ≤ m)
    (hfin : k * 2 ^ 23 + m < 255 * 2 ^ 23) :
    f32Units (BitVec.ofNat 32 (k * 2 ^ 23 + m)) = m * 2 ^ k := by
  simp only [f32Units, f32Exponent_ofNat hfin, f32Fraction_ofNat]
  rcases Nat.lt_or_ge m (2 ^ 23) with hsub | hnorm
  · obtain rfl : k = 0 := hk.resolve_right (by omega)
    rw [if_pos (by omega)]
    omega
  rcases Nat.lt_or_ge m (2 ^ 24) with hlt | hcarry
  · have hexp : (k * 2 ^ 23 + m) / 2 ^ 23 = k + 1 := by omega
    have hfrac : 2 ^ 23 + (k * 2 ^ 23 + m) % 2 ^ 23 = m := by omega
    rw [if_neg (by omega), hexp, hfrac, Nat.add_sub_cancel]
  · obtain rfl : m = 2 ^ 24 := by omega
    have hexp : (k * 2 ^ 23 + 2 ^ 24) / 2 ^ 23 = k + 2 := by omega
    have hfrac : (k * 2 ^ 23 + 2 ^ 24) % 2 ^ 23 = 0 := by omega
    rw [if_neg (by omega), hexp, hfrac]
    calc (2 ^ 23 + 0) * 2 ^ (k + 2 - 1) = 2 ^ 23 * 2 ^ (k + 1) := rfl
      _ = 2 ^ 24 * 2 ^ k := by rw [pow_succ]; ring

/-- Every pattern is on the grid of step `k` or below the binade of that step. -/
theorem f32Units_on_grid_or_below (g : F32) (k : Nat) :
    2 ^ k ∣ f32Units g ∨ f32Units g < 2 ^ 23 * 2 ^ k := by
  have hfrac := f32Fraction_lt g
  unfold f32Units
  split
  case isTrue => exact .inr (hfrac.trans_le (Nat.le_mul_of_pos_right _ (by positivity)))
  case isFalse hexp =>
    rcases Nat.lt_or_ge k (f32Exponent g) with hlt | hge
    · exact .inl (Dvd.dvd.mul_left (pow_dvd_pow 2 (by omega)) _)
    · right
      calc (2 ^ 23 + f32Fraction g) * 2 ^ (f32Exponent g - 1)
          < 2 ^ 24 * 2 ^ (f32Exponent g - 1) := Nat.mul_lt_mul_of_pos_right (by omega) (by positivity)
        _ = 2 ^ 23 * 2 ^ (f32Exponent g - 1 + 1) := by rw [pow_succ]; ring
        _ ≤ 2 ^ 23 * 2 ^ k := Nat.mul_le_mul_left _ (Nat.pow_le_pow_right (by omega) (by omega))

/-! ### Rounding to binary32 -/

theorem f32OfUnits_eq (n d : Nat) (hd : 0 < d) (hn : n < (2 ^ 25 - 1) * 2 ^ 252 * d) :
    f32OfUnits n d = BitVec.ofNat 32 (f32Step n d * 2 ^ 23 + f32Significand n d) := by
  have hbits := f32OfUnits_bits_lt n d hd hn
  exact congrArg (BitVec.ofNat 32) (Nat.min_eq_left (by simp only [f32Significand] at hbits; omega))

theorem f32Exponent_f32OfUnits_lt (n d : Nat) (hd : 0 < d) (hn : n < (2 ^ 25 - 1) * 2 ^ 252 * d) :
    f32Exponent (f32OfUnits n d) < 255 := by
  have hbits := f32OfUnits_bits_lt n d hd hn
  rw [f32OfUnits_eq n d hd hn, f32Exponent_ofNat hbits]
  omega

theorem f32Units_f32OfUnits (n d : Nat) (hd : 0 < d) (hn : n < (2 ^ 25 - 1) * 2 ^ 252 * d) :
    f32Units (f32OfUnits n d) = f32Significand n d * 2 ^ f32Step n d := by
  rw [f32OfUnits_eq n d hd hn]
  exact f32Units_ofNat (f32Significand_le n d hd) (le_f32Significand n d hd) (f32OfUnits_bits_lt n d hd hn)

/-- The step field fills whole multiples of `2 ^ 23`, so the pattern's parity is the significand's. -/
theorem f32OfUnits_getLsbD_zero (n d : Nat) (hd : 0 < d) (hn : n < (2 ^ 25 - 1) * 2 ^ 252 * d)
    (heven : f32Significand n d % 2 = 0) : (f32OfUnits n d).getLsbD 0 = false := by
  rw [f32OfUnits_eq n d hd hn]
  have hbits : (f32Step n d * 2 ^ 23 + f32Significand n d) % 2 = 0 := by omega
  simp only [BitVec.getLsbD_ofNat, Nat.testBit_zero, hbits, Nat.zero_ne_one, decide_false, Bool.and_false]

/-- On the grid this is the rounding of the significand; below the binade a value is farther from `n / d`
than the binade's first value, which is on the grid. -/
theorem f32Significand_nearest (n d : Nat) (g : F32) (hd : 0 < d) :
    (((f32Significand n d * (d * 2 ^ f32Step n d) : Nat) : Int) - n).natAbs ≤
      (((f32Units g * d : Nat) : Int) - n).natAbs ∧
    ((((f32Significand n d * (d * 2 ^ f32Step n d) : Nat) : Int) - n).natAbs =
        (((f32Units g * d : Nat) : Int) - n).natAbs →
      f32Units g = f32Significand n d * 2 ^ f32Step n d ∨ f32Significand n d % 2 = 0) := by
  have hpos : 0 < d * 2 ^ f32Step n d := by positivity
  by_cases hgrid : 2 ^ f32Step n d ∣ f32Units g
  · obtain ⟨j, hj⟩ := hgrid
    have hscale : f32Units g * d = j * (d * 2 ^ f32Step n d) := by rw [hj]; ring
    obtain ⟨hnear, htie⟩ := roundHalfEven_nearest n (d * 2 ^ f32Step n d) j hpos
    rw [hscale]
    refine ⟨hnear, fun heq => (htie heq).imp_left fun hjm => ?_⟩
    rw [hj, hjm, mul_comm, f32Significand]
  · have hbelow := (f32Units_on_grid_or_below g (f32Step n d)).resolve_left hgrid
    have hk : f32Step n d ≠ 0 := fun h => hgrid (by simp [h])
    have hbottom := f32Step_binade_bottom_le n d hk
    have hfar : f32Units g * d < 2 ^ 23 * (d * 2 ^ f32Step n d) :=
      calc f32Units g * d < 2 ^ 23 * 2 ^ f32Step n d * d := Nat.mul_lt_mul_of_pos_right hbelow hd
        _ = 2 ^ 23 * (d * 2 ^ f32Step n d) := by ring
    obtain ⟨hnear, -⟩ := roundHalfEven_nearest n (d * 2 ^ f32Step n d) (2 ^ 23) hpos
    simp only [f32Significand]
    omega

/-- Settles O13: the value is the significand on its grid, which is nearest with ties to even. -/
theorem binaryRoundingIsNearestEven : Obligations.BinaryRoundingIsNearestEven := by
  intro n d g hd hn _
  have hvalue : f32Units (f32OfUnits n d) * d = f32Significand n d * (d * 2 ^ f32Step n d) := by
    rw [f32Units_f32OfUnits n d hd hn]; ring
  obtain ⟨hnear, htie⟩ := f32Significand_nearest n d g hd
  rw [← hvalue] at hnear htie
  push_cast at hnear htie
  refine ⟨f32Exponent_f32OfUnits_lt n d hd hn, hnear, fun heq => ?_⟩
  exact (htie heq).imp (·.trans (f32Units_f32OfUnits n d hd hn).symm) (f32OfUnits_getLsbD_zero n d hd hn)

end Sys2Proof.Machine
end

section
/-!
PROOFS. The machine invariant (10_state.md, Safety.lean): one lemma per state operation, then one per effect
of the model, and the step by the inversion `exec_cases`.
-/
namespace Sys2Proof.Machine

variable {s : State}

/-! ### The parameters -/

/-- What a clause about REMOTE instances says of a ROBOT: nothing. -/
theorem Params.remote_of_robot {p : Params} {q : Prop} (hrobot : p.role = .robot)
    (hremote : p.role = .remote) : q := by
  rw [hrobot] at hremote
  cases hremote

/-- What a clause about ROBOT instances says of a REMOTE: nothing. -/
theorem Params.robot_of_remote {p : Params} {q : Prop} (hremote : p.role = .remote)
    (hrobot : p.role = .robot) : q :=
  Params.remote_of_robot hrobot hremote

theorem Params.legal.clock_range_pos {p : Params} (h : Params.legal p) (i : ClockId) :
    0 < (p.clock i).range := by
  obtain ⟨hwf, -⟩ := h
  simp only [Params.wf, ClockParams.wf, Bool.and_eq_true, decide_eq_true_eq] at hwf
  cases i <;> simp only [Params.clock] <;> omega

theorem resetParams_legal : Params.legal Config.resetParams :=
  ⟨by decide, Params.remote_of_robot rfl⟩

/-! ### The invariant after reset -/

theorem neutralActuator_duty_low_bits : neutralActuator.duty &&& 3 = 0 := by decide

theorem State.resetOf_inv {p : Params} (h : Params.legal p) : (State.resetOf p).Inv where
  paramsLegal := h
  calFixed := rfl
  cnt0 := h.clock_range_pos .mc0
  cnt1 := h.clock_range_pos .mc1
  trigLow := rfl
  robotUnused _ := ⟨rfl, rfl, rfl⟩
  remoteUnused _ := ⟨rfl, rfl, rfl, rfl, rfl, rfl⟩
  rangeRunning _ := rfl
  oneHold _ := rfl
  stopped _ := ⟨rfl, rfl⟩
  dutyQuantised := ⟨neutralActuator_duty_low_bits, neutralActuator_duty_low_bits⟩
  latchDisplay := ⟨nofun, nofun⟩
  latchedQuiet _ := rfl

/-- Settles O56: a ROBOT with T1's parameters is legal. -/
theorem theInvariantHoldsAtReset : Obligations.TheInvariantHoldsAtReset :=
  State.resetOf_inv resetParams_legal

/-! ### The state operations -/

theorem State.Inv.returns (h : s.Inv) (v : BitVec 64) : (s.returns v).Inv := { h with }

theorem State.Inv.returnsNothing (h : s.Inv) : s.returnsNothing.Inv := { h with }

theorem State.Inv.takeByte (h : s.Inv) : s.takeByte.Inv := { h with }

theorem State.Inv.present (h : s.Inv) (st : Stimulus) : (s.present st).Inv := { h with }

theorem State.Inv.afterTake (h : s.Inv) : s.afterTake.Inv := by
  rw [afterTake_eq]
  exact { h with }

theorem State.Inv.cnt_lt (h : s.Inv) (i : ClockId) : (s.mc i).cnt < (s.params.clock i).range := by
  cases i
  case mc0 => exact h.cnt0
  case mc1 => exact h.cnt1

theorem State.Inv.setMc (h : s.Inv) (i : ClockId) {c : Clock} (hc : c.cnt < (s.params.clock i).range) :
    (s.setMc i c).Inv := by
  cases i
  case mc0 => exact { h with cnt0 := hc }
  case mc1 => exact { h with cnt1 := hc }

/-- A byte may be queued where no range is pending and the remote is not latched. -/
theorem State.Inv.transmit (h : s.Inv) (b : Byte) (hrngp : s.rngp = false) (hidle : s.rfsm = .idle) :
    (s.transmit b).Inv :=
  { h with
    oneHold := fun hr => absurd (hrngp.symm.trans hr) Bool.false_ne_true
    latchedQuiet := fun hl => nomatch hidle.symm.trans hl }

/-- A robot outside the handshake may drive a motor, with a quantised duty. -/
theorem State.Inv.setAct (h : s.Inv) (hrobot : s.params.role = .robot) (hrun : s.hs = .running)
    (m : Motor) {a : Actuator} (ha : a.duty &&& 3 = 0) : (s.setAct m a).Inv := by
  cases m
  case left =>
    exact { h with
      remoteUnused := Params.remote_of_robot hrobot
      stopped := fun hw => nomatch hrun.symm.trans hw
      dutyQuantised := ⟨ha, h.dutyQuantised.2⟩ }
  case right =>
    exact { h with
      remoteUnused := Params.remote_of_robot hrobot
      stopped := fun hw => nomatch hrun.symm.trans hw
      dutyQuantised := ⟨h.dutyQuantised.1, ha⟩ }

theorem txp_none_of_not_held (hheld : s.held = false) : s.txp = none :=
  ((held_false_iff s).1 hheld).1

theorem rngp_false_of_not_held (hheld : s.held = false) : s.rngp = false :=
  ((held_false_iff s).1 hheld).2

/-! ### The clocks and the range finder -/

theorem Clock.tick_cnt_lt {n : Nat} {c : Clock} (h : c.cnt < n) : (c.tick n).cnt < n := by
  unfold Clock.tick
  split
  · split
    · exact Nat.zero_lt_of_lt h
    · simp only
      omega
  · exact h

theorem State.Inv.tickEffect (h : s.Inv) (i : ClockId) : (tickEffect i s).Inv :=
  h.setMc i (Clock.tick_cnt_lt (h.cnt_lt i))

theorem State.Inv.mcStartEffect (h : s.Inv) (i : ClockId) : (mcStartEffect i s).Inv :=
  (h.setMc i (c := (s.mc i).start) (h.cnt_lt i)).returnsNothing

theorem State.Inv.mcStopEffect (h : s.Inv) (i : ClockId) : (mcStopEffect i s).Inv :=
  (h.setMc i (c := (s.mc i).stop) (h.cnt_lt i)).returnsNothing

theorem State.Inv.mcResetEffect (h : s.Inv) (i : ClockId) : (mcResetEffect i s).Inv :=
  (h.setMc i (h.paramsLegal.clock_range_pos i)).returnsNothing

theorem State.Inv.mcReadEffect (h : s.Inv) (i : ClockId) : (mcReadEffect i s).Inv :=
  h.returns _

theorem State.Inv.echoSample (h : s.Inv) (level : Bool) : (echoSample level s).Inv := by
  unfold Machine.echoSample
  split
  case isTrue hedge =>
    exact { h with
      cnt0 := by split <;> exact h.cnt0
      remoteUnused := Params.remote_of_robot hedge.1 }
  case isFalse => exact h

theorem State.Inv.rangeEffect (h : s.Inv) (hrobot : s.params.role = .robot) (htxp : s.txp = none) :
    (rangeEffect s).Inv := by
  unfold Machine.rangeEffect
  split
  case h_1 => exact h.returnsNothing
  case h_2 hrun =>
    exact { h with
      trigLow := rfl
      remoteUnused := Params.remote_of_robot hrobot
      rangeRunning := fun _ => hrun
      oneHold := fun _ => htxp }

/-- RANGE_SAMPLE is enabled by `RNGP`, which a REMOTE never raises. -/
theorem State.Inv.rangeSampleEffect (h : s.Inv) (hrngp : s.rngp = true) : (rangeSampleEffect s).Inv :=
  { h with
    cnt0 := h.paramsLegal.clock_range_pos .mc0
    remoteUnused := fun hremote => by
      obtain ⟨-, -, -, -, -, hoff⟩ := h.remoteUnused hremote
      exact absurd (hoff.symm.trans hrngp) Bool.false_ne_true
    rangeRunning := nofun
    oneHold := nofun }

/-! ### The encoder -/

theorem State.Inv.encodeEffect (h : s.Inv) (hremote : s.params.role = .remote) (mm : MotorSel) :
    (encodeEffect mm s).Inv :=
  { h with robotUnused := Params.robot_of_remote hremote }

theorem State.Inv.sendDriveEffect (h : s.Inv) (hremote : s.params.role = .remote)
    (hrngp : s.rngp = false) (mm : MotorSel) : (sendDriveEffect mm s).Inv := by
  unfold Machine.sendDriveEffect
  split
  case h_1 => exact h.returnsNothing
  case h_2 hidle => exact (h.encodeEffect hremote mm).transmit _ hrngp hidle

/-! ### The robot's side of the link -/

theorem State.Inv.idle_of_robot (h : s.Inv) (hrobot : s.params.role = .robot) : s.rfsm = .idle := by
  obtain ⟨-, hidle, -⟩ := h.robotUnused hrobot
  exact hidle

theorem State.Inv.setObs (h : s.Inv) (hrobot : s.params.role = .robot) (b : Bool) :
    { s with obs := b }.Inv :=
  { h with remoteUnused := Params.remote_of_robot hrobot }

theorem State.Inv.faultEvalEffect (h : s.Inv) (hrobot : s.params.role = .robot)
    (hrngp : s.rngp = false) : (faultEvalEffect s).Inv := by
  have hsignal (b : Bool) (msg : Byte) : ({ s with obs := b }.transmit msg).returnsNothing.Inv :=
    ((h.setObs hrobot b).transmit msg hrngp (h.idle_of_robot hrobot)).returnsNothing
  unfold Machine.faultEvalEffect
  split
  case h_1 => exact h.returnsNothing
  case h_2 =>
    split
    · exact hsignal true msgObstacle
    · split
      · exact hsignal false msgClear
      · exact h.returnsNothing

/-- The motors are neutral when the wait begins, and no range is pending then. -/
theorem State.Inv.enterHandshake (h : s.Inv) (hrobot : s.params.role = .robot)
    (hrngp : s.rngp = false) : (enterHandshake s).Inv :=
  have hwait : { s.stopMotors with hs := .awaitingAck }.Inv :=
    { h with
      remoteUnused := Params.remote_of_robot hrobot
      rangeRunning := fun hr => absurd (hrngp.symm.trans hr) Bool.false_ne_true
      stopped := fun _ => ⟨rfl, rfl⟩
      dutyQuantised := ⟨neutralActuator_duty_low_bits, neutralActuator_duty_low_bits⟩ }
  hwait.transmit msgCollision hrngp (h.idle_of_robot hrobot)

theorem State.Inv.collEvalEffect (h : s.Inv) (hrobot : s.params.role = .robot)
    (hrngp : s.rngp = false) : (collEvalEffect s).Inv := by
  unfold Machine.collEvalEffect
  split
  case h_1 => exact h.returnsNothing
  case h_2 =>
    split
    · exact (h.enterHandshake hrobot hrngp).returnsNothing
    · exact h.returnsNothing

theorem State.Inv.robotByte (h : s.Inv) (hrobot : s.params.role = .robot) (b : Byte) :
    (robotByte b s).Inv := by
  unfold Machine.robotByte
  split
  case h_1 hrun => exact h.setAct hrobot hrun _ (driveDuty_low_bits b)
  case h_2 =>
    split
    · exact { h with
        remoteUnused := Params.remote_of_robot hrobot
        rangeRunning := fun _ => rfl
        stopped := nofun }
    · exact h

theorem State.Inv.robotReceive (h : s.Inv) (hrobot : s.params.role = .robot) (r : Option Byte) :
    (robotReceive r s).Inv := by
  cases r
  case none => exact h.returns _
  case some b => exact (h.takeByte.robotByte hrobot b).returns _

/-! ### The remote's side of the link -/

/-- An idle remote may show anything but the collision. -/
theorem State.Inv.setDisp (h : s.Inv) (hremote : s.params.role = .remote) (hidle : s.rfsm = .idle)
    {d : Display} (hd : d ≠ .collision) : { s with disp := d }.Inv :=
  { h with
    robotUnused := Params.robot_of_remote hremote
    latchDisplay := ⟨fun hl => (nomatch hidle.symm.trans hl), fun hc => absurd hc hd⟩ }

/-- Only '1' shows the collision, and it latches in the same step. -/
theorem State.Inv.remoteByte (h : s.Inv) (hremote : s.params.role = .remote) (hidle : s.rfsm = .idle)
    (htxp : s.txp = none) (b : Byte) : (remoteByte b s).Inv := by
  unfold Machine.remoteByte
  split
  · exact h.setDisp hremote hidle nofun
  · split
    · exact { h with
        robotUnused := Params.robot_of_remote hremote
        latchDisplay := ⟨fun _ => rfl, fun _ => rfl⟩
        latchedQuiet := fun _ => htxp }
    · split
      · exact h.setDisp hremote hidle nofun
      · exact h.setDisp hremote hidle nofun

theorem State.Inv.remoteReceive (h : s.Inv) (hremote : s.params.role = .remote) (htxp : s.txp = none)
    (r : Option Byte) : (remoteReceive r s).Inv := by
  unfold Machine.remoteReceive
  split
  case h_1 => exact h.returns _
  case h_2 hidle =>
    cases r
    case none => exact h.returns _
    case some b => exact (h.takeByte.remoteByte hremote hidle htxp b).returns _

theorem State.Inv.confirmPollEffect (h : s.Inv) (hremote : s.params.role = .remote)
    (hrngp : s.rngp = false) : (confirmPollEffect s).Inv := by
  have hunlatched : { s with disp := .clear, rfsm := .idle }.Inv :=
    { h with
      robotUnused := Params.robot_of_remote hremote
      latchDisplay := ⟨nofun, nofun⟩
      latchedQuiet := nofun }
  unfold Machine.confirmPollEffect
  split
  case h_1 => exact h.returnsNothing
  case h_2 =>
    split
    · exact (hunlatched.transmit msgCollision hrngp rfl).returnsNothing
    · exact h.returnsNothing

/-! ### The transmitter, reset and the step -/

theorem State.Inv.txAcceptEffect (h : s.Inv) : (txAcceptEffect s).Inv := by
  unfold Machine.txAcceptEffect
  split
  case h_1 => exact { h with oneHold := fun _ => rfl, latchedQuiet := fun _ => rfl }
  case h_2 => exact h

theorem State.Inv.resetEffect (h : s.Inv) : (resetEffect s).Inv :=
  { State.resetOf_inv h.paramsLegal with }

theorem exec_keeps_inv {i : Instr} {t : State} (h : s.Inv) (hexec : exec i s = .next t) : t.Inv := by
  rcases exec_cases hexec with ⟨c, -, -, rfl⟩ | ⟨c, -, -, rfl⟩ | ⟨c, -, -, rfl⟩ | ⟨c, -, -, rfl⟩ |
    ⟨-, hrole, hheld, rfl⟩ | ⟨mm, -, hrole, -, rfl⟩ | ⟨mm, -, hrole, hheld, rfl⟩ |
    ⟨-, hrole, hheld, rfl⟩ | ⟨-, hrole, hheld, rfl⟩ | ⟨r, -, hrole, -, rfl⟩ |
    ⟨r, -, hrole, hheld, rfl⟩ | ⟨-, hrole, hheld, rfl⟩ | ⟨c, -, rfl⟩ | ⟨level, -, rfl⟩ |
    ⟨b, -, -, rfl⟩ | ⟨-, hrngp, rfl⟩ | ⟨-, -, rfl⟩
  · exact h.mcStartEffect c
  · exact h.mcStopEffect c
  · exact h.mcResetEffect c
  · exact h.mcReadEffect c
  · exact h.rangeEffect hrole (txp_none_of_not_held hheld)
  · exact h.encodeEffect hrole mm
  · exact h.sendDriveEffect hrole (rngp_false_of_not_held hheld) mm
  · exact h.faultEvalEffect hrole (rngp_false_of_not_held hheld)
  · exact h.collEvalEffect hrole (rngp_false_of_not_held hheld)
  · exact h.robotReceive hrole r
  · exact h.remoteReceive hrole (txp_none_of_not_held hheld) r
  · exact h.confirmPollEffect hrole (rngp_false_of_not_held hheld)
  · exact h.tickEffect c
  · exact h.echoSample level
  · exact h.txAcceptEffect
  · exact h.rangeSampleEffect hrngp
  · exact h.resetEffect

/-- Settles O55: what precedes `exec` in a step writes no field of the invariant. -/
theorem everyStepKeepsTheInvariant : Obligations.EveryStepKeepsTheInvariant := by
  intro s t h hstep
  obtain ⟨i, hexec⟩ := step_next s t hstep
  exact exec_keeps_inv (h.afterTake.present s.nextStimulus) hexec

end Sys2Proof.Machine
end

section
/-!
PROOFS. The fixed data of the machine and its history (10_state.md R31, R33, R34): what each effect keeps of the
parameters and of CAL, and how it acts on the history without reading it.
-/
namespace Sys2Proof.Machine

variable (s : State)

/-! ### Parameters and calibration file -/

/-- `t` was built as `s` was: the same parameters and calibration file. -/
structure State.SameInstance (s t : State) : Prop where
  params : t.params = s.params
  cal : t.cal = s.cal

theorem mcStartEffect_sameInstance (i : ClockId) : s.SameInstance (mcStartEffect i s) :=
  ⟨s.setMc_params i _, s.setMc_cal i _⟩

theorem mcStopEffect_sameInstance (i : ClockId) : s.SameInstance (mcStopEffect i s) :=
  ⟨s.setMc_params i _, s.setMc_cal i _⟩

theorem mcResetEffect_sameInstance (i : ClockId) : s.SameInstance (mcResetEffect i s) :=
  ⟨s.setMc_params i _, s.setMc_cal i _⟩

theorem mcReadEffect_sameInstance (i : ClockId) : s.SameInstance (mcReadEffect i s) :=
  ⟨s.returns_params _, s.returns_cal _⟩

theorem tickEffect_sameInstance (i : ClockId) : s.SameInstance (tickEffect i s) :=
  ⟨s.setMc_params i _, s.setMc_cal i _⟩

theorem echoSample_sameInstance (level : Bool) : s.SameInstance (echoSample level s) := by
  unfold echoSample
  split <;> exact ⟨rfl, rfl⟩

theorem rangeEffect_sameInstance : s.SameInstance (rangeEffect s) := by
  unfold rangeEffect
  split <;> exact ⟨rfl, rfl⟩

theorem rangeSampleEffect_sameInstance : s.SameInstance (rangeSampleEffect s) := ⟨rfl, rfl⟩

theorem encodeEffect_sameInstance (mm : MotorSel) : s.SameInstance (encodeEffect mm s) := ⟨rfl, rfl⟩

theorem sendDriveEffect_sameInstance (mm : MotorSel) : s.SameInstance (sendDriveEffect mm s) := by
  unfold sendDriveEffect
  split <;> exact ⟨rfl, rfl⟩

theorem faultEvalEffect_sameInstance : s.SameInstance (faultEvalEffect s) := by
  unfold faultEvalEffect
  (repeat' split) <;> exact ⟨rfl, rfl⟩

theorem collEvalEffect_sameInstance : s.SameInstance (collEvalEffect s) := by
  unfold collEvalEffect
  (repeat' split) <;> exact ⟨rfl, rfl⟩

theorem robotByte_sameInstance (b : Byte) : s.SameInstance (robotByte b s) := by
  unfold robotByte
  split
  case h_1 => exact ⟨s.setAct_params _ _, s.setAct_cal _ _⟩
  case h_2 => split <;> exact ⟨rfl, rfl⟩

theorem robotReceive_sameInstance (r : Option Byte) : s.SameInstance (robotReceive r s) := by
  cases r
  case none => exact ⟨rfl, rfl⟩
  case some b =>
    obtain ⟨hparams, hcal⟩ := robotByte_sameInstance s.takeByte b
    exact ⟨hparams, hcal⟩

theorem remoteByte_sameInstance (b : Byte) : s.SameInstance (remoteByte b s) := by
  unfold remoteByte
  (repeat' split) <;> exact ⟨rfl, rfl⟩

theorem remoteReceive_sameInstance (r : Option Byte) : s.SameInstance (remoteReceive r s) := by
  unfold remoteReceive
  split
  case h_1 => exact ⟨rfl, rfl⟩
  case h_2 =>
    cases r
    case none => exact ⟨rfl, rfl⟩
    case some b =>
      obtain ⟨hparams, hcal⟩ := remoteByte_sameInstance s.takeByte b
      exact ⟨hparams, hcal⟩

theorem confirmPollEffect_sameInstance : s.SameInstance (confirmPollEffect s) := by
  unfold confirmPollEffect
  (repeat' split) <;> exact ⟨rfl, rfl⟩

theorem txAcceptEffect_sameInstance : s.SameInstance (txAcceptEffect s) := by
  unfold txAcceptEffect
  split <;> exact ⟨rfl, rfl⟩

theorem exec_sameInstance {i : Instr} {s t : State} (h : exec i s = .next t) (hi : i ≠ .reset) :
    s.SameInstance t := by
  rcases exec_cases h with ⟨c, -, -, rfl⟩ | ⟨c, -, -, rfl⟩ | ⟨c, -, -, rfl⟩ | ⟨c, -, -, rfl⟩ |
    ⟨-, -, -, rfl⟩ | ⟨mm, -, -, -, rfl⟩ | ⟨mm, -, -, -, rfl⟩ | ⟨-, -, -, rfl⟩ | ⟨-, -, -, rfl⟩ |
    ⟨r, -, -, -, rfl⟩ | ⟨r, -, -, -, rfl⟩ | ⟨-, -, -, rfl⟩ | ⟨c, -, rfl⟩ | ⟨level, -, rfl⟩ |
    ⟨b, -, -, rfl⟩ | ⟨-, -, rfl⟩ | ⟨hreset, -, -⟩
  · exact mcStartEffect_sameInstance s c
  · exact mcStopEffect_sameInstance s c
  · exact mcResetEffect_sameInstance s c
  · exact mcReadEffect_sameInstance s c
  · exact rangeEffect_sameInstance s
  · exact encodeEffect_sameInstance s mm
  · exact sendDriveEffect_sameInstance s mm
  · exact faultEvalEffect_sameInstance s
  · exact collEvalEffect_sameInstance s
  · exact robotReceive_sameInstance s r
  · exact remoteReceive_sameInstance s r
  · exact confirmPollEffect_sameInstance s
  · exact tickEffect_sameInstance s c
  · exact echoSample_sameInstance s level
  · exact txAcceptEffect_sameInstance s
  · exact rangeSampleEffect_sameInstance s
  · exact absurd hreset hi

/-- Settles O46: RESET by its own state, and every other instruction by its effect's frame. -/
theorem parametersAndCalibrationAreFixed : Obligations.ParametersAndCalibrationAreFixed := by
  intro i s t h
  by_cases hi : i = .reset
  case pos =>
    subst hi
    obtain ⟨-, rfl⟩ := (execReset_next s t).1 h
    exact ⟨rfl, fun hne => absurd rfl hne, fun _ => rfl⟩
  case neg =>
    obtain ⟨hparams, hcal⟩ := exec_sameInstance h hi
    exact ⟨hparams, fun _ => hcal, fun hr => absurd hr hi⟩

/-! ### The history replaced -/

/-- `s` with the history `h`. -/
def State.withHist (s : State) (h : List OutEvent) : State := { s with hist := h }

@[simp] theorem State.withHist_hist (h : List OutEvent) : (s.withHist h).hist = h := rfl
@[simp] theorem State.withHist_params (h : List OutEvent) : (s.withHist h).params = s.params := rfl
@[simp] theorem State.withHist_echoLvl (h : List OutEvent) : (s.withHist h).echoLvl = s.echoLvl := rfl
@[simp] theorem State.withHist_obs (h : List OutEvent) : (s.withHist h).obs = s.obs := rfl
@[simp] theorem State.withHist_hs (h : List OutEvent) : (s.withHist h).hs = s.hs := rfl
@[simp] theorem State.withHist_rfsm (h : List OutEvent) : (s.withHist h).rfsm = s.rfsm := rfl
@[simp] theorem State.withHist_txp (h : List OutEvent) : (s.withHist h).txp = s.txp := rfl
@[simp] theorem State.withHist_ports (h : List OutEvent) : (s.withHist h).ports = s.ports := rfl

theorem State.ite_withHist (c : Prop) [Decidable c] (t u : State) (h : List OutEvent) :
    (if c then t else u).withHist h = if c then t.withHist h else u.withHist h :=
  apply_ite (State.withHist · h) c t u
@[simp] theorem State.withHist_opdD (h : List OutEvent) : (s.withHist h).opdD = s.opdD := rfl
@[simp] theorem State.withHist_opdAx (h : List OutEvent) : (s.withHist h).opdAx = s.opdAx := rfl
@[simp] theorem State.withHist_opdAy (h : List OutEvent) : (s.withHist h).opdAy = s.opdAy := rfl
@[simp] theorem State.withHist_opdAz (h : List OutEvent) : (s.withHist h).opdAz = s.opdAz := rfl

/-- On `s` the effect neither reads nor writes the history. -/
def LeavesHistory (effect : State → State) (s : State) : Prop :=
  ∀ h, effect (s.withHist h) = (effect s).withHist h

theorem mcStartEffect_leavesHistory (i : ClockId) : LeavesHistory (mcStartEffect i) s := by
  intro h
  cases i <;> rfl

theorem mcStopEffect_leavesHistory (i : ClockId) : LeavesHistory (mcStopEffect i) s := by
  intro h
  cases i <;> rfl

theorem mcResetEffect_leavesHistory (i : ClockId) : LeavesHistory (mcResetEffect i) s := by
  intro h
  cases i <;> rfl

theorem mcReadEffect_leavesHistory (i : ClockId) : LeavesHistory (mcReadEffect i) s := by
  intro h
  cases i <;> rfl

theorem tickEffect_leavesHistory (i : ClockId) : LeavesHistory (tickEffect i) s := by
  intro h
  cases i <;> rfl

theorem echoSample_leavesHistory (level : Bool) : LeavesHistory (echoSample level) s := by
  intro h
  simp only [echoSample, State.withHist_params, State.withHist_echoLvl, State.ite_withHist]
  rfl

theorem rangeEffect_leavesHistory (hs : s.hs = .awaitingAck) : LeavesHistory rangeEffect s := by
  intro h
  simp only [rangeEffect, State.withHist_hs, hs]
  rfl

theorem rangeSampleEffect_leavesHistory : LeavesHistory rangeSampleEffect s := by
  intro h
  unfold rangeSampleEffect
  rfl

theorem encodeEffect_leavesHistory (mm : MotorSel) : LeavesHistory (encodeEffect mm) s := by
  intro h
  unfold encodeEffect
  rfl

theorem sendDriveEffect_leavesHistory (mm : MotorSel) : LeavesHistory (sendDriveEffect mm) s := by
  intro h
  cases hl : s.rfsm <;> simp only [sendDriveEffect, State.withHist_rfsm, hl]
  case idle =>
    rw [encodeEffect_leavesHistory]
    rfl
  case latched => rfl

theorem faultEvalEffect_leavesHistory : LeavesHistory faultEvalEffect s := by
  intro h
  cases hs : s.hs <;>
    simp only [faultEvalEffect, State.withHist_hs, State.withHist_params, State.withHist_opdD,
      State.withHist_obs, State.ite_withHist, hs]
  case running => rfl
  case awaitingAck => rfl

theorem collEvalEffect_leavesHistory : LeavesHistory collEvalEffect s := by
  intro h
  cases hs : s.hs <;>
    simp only [collEvalEffect, State.withHist_hs, State.withHist_params, State.withHist_opdAx,
      State.withHist_opdAy, State.withHist_opdAz, State.ite_withHist, hs]
  case running => rfl
  case awaitingAck => rfl

theorem robotByte_leavesHistory (b : Byte) : LeavesHistory (robotByte b) s := by
  intro h
  cases hs : s.hs <;> simp only [robotByte, State.withHist_hs, State.ite_withHist, hs]
  case running => cases driveMotor b <;> rfl
  case awaitingAck => rfl

theorem robotReceive_leavesHistory (r : Option Byte) : LeavesHistory (robotReceive r) s := by
  intro h
  cases r
  case none => rfl
  case some b => exact congrArg (State.returns · _) (robotByte_leavesHistory s.takeByte b h)

theorem remoteByte_leavesHistory (b : Byte) : LeavesHistory (remoteByte b) s := by
  intro h
  simp only [remoteByte, State.ite_withHist]
  rfl

theorem remoteReceive_leavesHistory (r : Option Byte) : LeavesHistory (remoteReceive r) s := by
  intro h
  cases hl : s.rfsm <;> simp only [remoteReceive, State.withHist_rfsm, hl]
  case idle =>
    cases r
    case none => rfl
    case some b => exact congrArg (State.returns · _) (remoteByte_leavesHistory s.takeByte b h)
  case latched => rfl

theorem confirmPollEffect_leavesHistory : LeavesHistory confirmPollEffect s := by
  intro h
  cases hl : s.rfsm <;>
    simp only [confirmPollEffect, State.withHist_rfsm, State.withHist_ports, State.ite_withHist, hl]
  case idle => rfl
  case latched => rfl

/-- On `s` the effect appends `e` to the history, without reading it. -/
def AppendsToHistory (e : OutEvent) (effect : State → State) (s : State) : Prop :=
  ∀ h, effect (s.withHist h) = (effect s).withHist (h ++ [e])

theorem rangeEffect_appendsToHistory (hs : s.hs = .running) :
    AppendsToHistory .trigPulse rangeEffect s := by
  intro h
  simp only [rangeEffect, State.withHist_hs, hs]
  rfl

theorem txAcceptEffect_appendsToHistory {b : Byte} (htxp : s.txp = some b) :
    AppendsToHistory (.tx b) txAcceptEffect s := by
  intro h
  simp only [txAcceptEffect, State.withHist_txp, htxp]
  rfl

/-! ### The history grows only at the end -/

variable {s}

theorem LeavesHistory.hist_eq {effect : State → State} (he : LeavesHistory effect s) :
    (effect s).hist = s.hist := by
  have hself : effect s = (effect s).withHist s.hist := he s.hist
  rw [hself, State.withHist_hist]

theorem AppendsToHistory.hist_eq {e : OutEvent} {effect : State → State}
    (he : AppendsToHistory e effect s) : (effect s).hist = s.hist ++ [e] := by
  have hself : effect s = (effect s).withHist (s.hist ++ [e]) := he s.hist
  rw [hself, State.withHist_hist]

theorem rangeEffect_hist :
    (rangeEffect s).hist = s.hist ∨ (rangeEffect s).hist = s.hist ++ [.trigPulse] := by
  cases hs : s.hs
  case running => exact .inr (rangeEffect_appendsToHistory s hs).hist_eq
  case awaitingAck => exact .inl (rangeEffect_leavesHistory s hs).hist_eq

/-- Settles O47: every effect but RANGE's and TX_ACCEPT's leaves the history. -/
theorem historyOnlyGrowsAtTheEnd : Obligations.HistoryOnlyGrowsAtTheEnd := by
  intro i s t h hi
  rcases exec_cases h with ⟨c, -, -, rfl⟩ | ⟨c, -, -, rfl⟩ | ⟨c, -, -, rfl⟩ | ⟨c, -, -, rfl⟩ |
    ⟨hrange, -, -, rfl⟩ | ⟨mm, -, -, -, rfl⟩ | ⟨mm, -, -, -, rfl⟩ | ⟨-, -, -, rfl⟩ | ⟨-, -, -, rfl⟩ |
    ⟨r, -, -, -, rfl⟩ | ⟨r, -, -, -, rfl⟩ | ⟨-, -, -, rfl⟩ | ⟨c, -, rfl⟩ | ⟨level, -, rfl⟩ |
    ⟨b, haccept, htxp, rfl⟩ | ⟨-, -, rfl⟩ | ⟨hreset, -, -⟩
  · exact .inl (mcStartEffect_leavesHistory s c).hist_eq
  · exact .inl (mcStopEffect_leavesHistory s c).hist_eq
  · exact .inl (mcResetEffect_leavesHistory s c).hist_eq
  · exact .inl (mcReadEffect_leavesHistory s c).hist_eq
  · exact rangeEffect_hist.imp_right fun hpulse => .inl ⟨hrange, hpulse⟩
  · exact .inl (encodeEffect_leavesHistory s mm).hist_eq
  · exact .inl (sendDriveEffect_leavesHistory s mm).hist_eq
  · exact .inl (faultEvalEffect_leavesHistory s).hist_eq
  · exact .inl (collEvalEffect_leavesHistory s).hist_eq
  · exact .inl (robotReceive_leavesHistory s r).hist_eq
  · exact .inl (remoteReceive_leavesHistory s r).hist_eq
  · exact .inl (confirmPollEffect_leavesHistory s).hist_eq
  · exact .inl (tickEffect_leavesHistory s c).hist_eq
  · exact .inl (echoSample_leavesHistory s level).hist_eq
  · exact .inr (.inr ⟨b, haccept, htxp, (txAcceptEffect_appendsToHistory s htxp).hist_eq⟩)
  · exact .inl (rangeSampleEffect_leavesHistory s).hist_eq
  · exact absurd hreset hi

/-! ### No instruction reads the history -/

/-- `o'` is the outcome `o`, but for the history of its next state. -/
def SameButHistory (o o' : StepOutcome) : Prop :=
  match o with
  | .next t => ∃ h, o' = .next (t.withHist h)
  | .fault f => o' = .fault f
  | .refused q => o' = .refused q

/-- From `s` with another history the effect gives its next state, with some history. -/
def BlindToHistory (effect : State → State) (s : State) : Prop :=
  ∀ h, ∃ h', effect (s.withHist h) = (effect s).withHist h'

theorem LeavesHistory.blind {effect : State → State} (he : LeavesHistory effect s) :
    BlindToHistory effect s :=
  fun h => ⟨h, he h⟩

theorem AppendsToHistory.blind {e : OutEvent} {effect : State → State}
    (he : AppendsToHistory e effect s) : BlindToHistory effect s :=
  fun h => ⟨h ++ [e], he h⟩

theorem rangeEffect_blind : BlindToHistory rangeEffect s := by
  cases hs : s.hs
  case running => exact (rangeEffect_appendsToHistory s hs).blind
  case awaitingAck => exact (rangeEffect_leavesHistory s hs).blind

theorem txAcceptEffect_blind : BlindToHistory txAcceptEffect s := by
  cases htxp : s.txp
  case some b => exact (txAcceptEffect_appendsToHistory s htxp).blind
  case none =>
    intro h
    refine ⟨h, ?_⟩
    simp only [txAcceptEffect, State.withHist_txp, htxp]

theorem command_sameButHistory (need : Option Role) {effect : State → State}
    (he : BlindToHistory effect s) (h : List OutEvent) :
    SameButHistory (command need s effect) (command need (s.withHist h) effect) := by
  have hissue : issueRefusal need (s.withHist h) = issueRefusal need s := rfl
  obtain ⟨h', heffect⟩ := he h
  unfold command
  rw [hissue]
  cases issueRefusal need s
  case none => exact ⟨h', congrArg _ heffect⟩
  case some q => rfl

theorem eventWhen_sameButHistory (enabled : Bool) {effect : State → State}
    (he : BlindToHistory effect s) (h : List OutEvent) :
    SameButHistory (eventWhen enabled s effect) (eventWhen enabled (s.withHist h) effect) := by
  obtain ⟨h', heffect⟩ := he h
  cases enabled
  case true => exact ⟨h', congrArg _ heffect⟩
  case false => rfl

theorem execReset_sameButHistory (h : List OutEvent) :
    SameButHistory (execReset s) (execReset (s.withHist h)) := by
  have hreset : resetEffect (s.withHist h) = (resetEffect s).withHist [] := rfl
  unfold execReset
  rw [hreset, State.withHist_params]
  cases s.params.role
  case robot => exact ⟨[], rfl⟩
  case remote =>
    cases calibrate s.params
    case ok => exact ⟨[], rfl⟩
    case error => rfl

theorem exec_sameButHistory (i : Instr) (h : List OutEvent) :
    SameButHistory (exec i s) (exec i (s.withHist h)) := by
  cases i
  case mcStart c => exact command_sameButHistory _ (mcStartEffect_leavesHistory s c).blind h
  case mcStop c => exact command_sameButHistory _ (mcStopEffect_leavesHistory s c).blind h
  case mcReset c => exact command_sameButHistory _ (mcResetEffect_leavesHistory s c).blind h
  case mcRead c => exact command_sameButHistory _ (mcReadEffect_leavesHistory s c).blind h
  case range => exact command_sameButHistory _ rangeEffect_blind h
  case encodeStick mm => exact command_sameButHistory _ (encodeEffect_leavesHistory s mm).blind h
  case sendDrive mm => exact command_sameButHistory _ (sendDriveEffect_leavesHistory s mm).blind h
  case faultEval => exact command_sameButHistory _ (faultEvalEffect_leavesHistory s).blind h
  case collEval => exact command_sameButHistory _ (collEvalEffect_leavesHistory s).blind h
  case confirmPoll => exact command_sameButHistory _ (confirmPollEffect_leavesHistory s).blind h
  case robotRxPoll | driveByte | ack1 =>
    exact command_sameButHistory _ (robotReceive_leavesHistory s _).blind h
  case remoteRxPoll | msgClear0 | msgCollision1 | msgObstacle2 | msgOther =>
    exact command_sameButHistory _ (remoteReceive_leavesHistory s _).blind h
  case tick0 => exact ⟨h, congrArg _ (tickEffect_leavesHistory s .mc0 h)⟩
  case tick1 => exact ⟨h, congrArg _ (tickEffect_leavesHistory s .mc1 h)⟩
  case echoFall => exact ⟨h, congrArg _ (echoSample_leavesHistory s false h)⟩
  case echoRise => exact ⟨h, congrArg _ (echoSample_leavesHistory s true h)⟩
  case txAccept => exact eventWhen_sameButHistory _ txAcceptEffect_blind h
  case rangeSample => exact eventWhen_sameButHistory _ (rangeSampleEffect_leavesHistory s).blind h
  case reset => exact execReset_sameButHistory h

/-- Settles O49: no effect and no issue condition depends on the history. -/
theorem noInstructionReadsTheHistory : Obligations.NoInstructionReadsTheHistory := by
  intro i s h
  have hsame := exec_sameButHistory (s := s) i h
  unfold SameButHistory at hsame
  cases hexec : exec i s <;> rw [hexec] at hsame <;> exact hsame

end Sys2Proof.Machine
end

section
/-!
PROOFS. The step and its stimulus, and the channels of the two-node system (20_memory.md R56, R62, R64): what a
command can take from its receive port, and what each move does to the bytes in flight.
-/
namespace Sys2Proof.Machine

/-! ### The step runs the decoded instruction -/

theorem step_of_pending {s : State} {st : Stimulus} {rest : List Stimulus}
    (hpending : s.pending = st :: rest) : step s = applyStimulus st { s with pending := rest } := by
  simp only [step, State.nextStimulus, State.afterTake, hpending]

theorem step_of_no_pending {s : State} (hpending : s.pending = []) :
    step s = applyStimulus (Config.envDraw s.drawIdx) { s with drawIdx := s.drawIdx + 1 } := by
  simp only [step, State.nextStimulus, State.afterTake, hpending]

/-- RESET is tried also where the configuration is refused (60_exceptions.md R221). -/
theorem runInstr_reset (s : State) : runInstr .reset s = exec .reset s := by
  unfold runInstr
  split
  case h_1 => rfl
  case h_2 => exact if_pos rfl

theorem configRefusal_eq_none_iff (p : Params) :
    p.configRefusal = none ↔ (p.role = .remote → checkCalibration p = none) := by
  cases hrole : p.role <;> simp [Params.configRefusal, hrole]

/-- Settles O50: the stimulus is taken, decoded and run, and a free draw is a stimulus decided late. -/
theorem stepRunsTheDecodedInstruction : Obligations.StepRunsTheDecodedInstruction := by
  refine ⟨?decided, configRefusal_eq_none_iff, ?drawn⟩
  case decided =>
    intro s st rest i hpending hdecode
    have hstep : step s = runInstr i (({ s with pending := rest } : State).present st) :=
      (step_of_pending hpending).trans (applyStimulus_decoded st { s with pending := rest } i hdecode)
    refine ⟨?runs, fun r hrefused hi => hstep.trans (runInstr_refused _ _ r hrefused hi)⟩
    case runs =>
      rintro (hbuilt | rfl)
      · exact hstep.trans (runInstr_built _ _ hbuilt)
      · exact hstep.trans (runInstr_reset _)
  case drawn =>
    intro s hpending
    have hdecided : step { s with pending := [Config.envDraw s.drawIdx], drawIdx := s.drawIdx + 1 } =
        applyStimulus (Config.envDraw s.drawIdx) { s with pending := [], drawIdx := s.drawIdx + 1 } :=
      rfl
    rw [step_of_no_pending hpending, hdecided, ← hpending]

/-! ### What a command takes from the receive port -/

section
variable (s : State)

theorem rangeEffect_rxTake : (rangeEffect s).rxTake = s.rxTake := by
  unfold rangeEffect
  split <;> rfl

theorem sendDriveEffect_rxTake (mm : MotorSel) : (sendDriveEffect mm s).rxTake = s.rxTake := by
  unfold sendDriveEffect
  split <;> rfl

theorem faultEvalEffect_rxTake : (faultEvalEffect s).rxTake = s.rxTake := by
  unfold faultEvalEffect
  (repeat' split) <;> rfl

theorem collEvalEffect_rxTake : (collEvalEffect s).rxTake = s.rxTake := by
  unfold collEvalEffect
  (repeat' split) <;> rfl

theorem confirmPollEffect_rxTake : (confirmPollEffect s).rxTake = s.rxTake := by
  unfold confirmPollEffect
  (repeat' split) <;> rfl

/-- From `s` to `t` no byte was taken, or the one on the receive port was, and `res` reports it
(43_link.md R181). -/
def TakesOnlyTheOffer (t : State) : Prop :=
  t.rxTake = s.rxTake ∨ ∃ b, s.ports.rx = some b ∧ t.res = pollResult (some b)

theorem robotReceive_takesOnlyTheOffer : TakesOnlyTheOffer s (robotReceive s.ports.rx s) := by
  cases hrx : s.ports.rx
  case none => exact .inl rfl
  case some b => exact .inr ⟨b, hrx, rfl⟩

theorem remoteReceive_takesOnlyTheOffer : TakesOnlyTheOffer s (remoteReceive s.ports.rx s) := by
  unfold remoteReceive
  split
  case h_1 => exact .inl rfl
  case h_2 =>
    cases hrx : s.ports.rx
    case none => exact .inl rfl
    case some b => exact .inr ⟨b, hrx, rfl⟩

variable {s}

theorem command_takesOnlyTheOffer {need : Option Role} {effect : State → State} {t : State}
    (heffect : TakesOnlyTheOffer s (effect s)) (hexec : command need s effect = .next t) :
    TakesOnlyTheOffer s t := by
  obtain ⟨-, rfl⟩ := (command_next _ _ _ _).1 hexec
  exact heffect

/-- Only the two polls take a byte, and they take what the port offers: a link byte, whose meaning is a poll
with that byte, is no command (log 5). -/
theorem exec_takesOnlyTheOffer {i : Instr} {t : State} (hcmd : (encode i).1 = .cmd)
    (hexec : exec i s = .next t) : TakesOnlyTheOffer s t := by
  cases i
  case mcStart c => exact command_takesOnlyTheOffer (.inl (s.setMc_rxTake c _)) hexec
  case mcStop c => exact command_takesOnlyTheOffer (.inl (s.setMc_rxTake c _)) hexec
  case mcReset c => exact command_takesOnlyTheOffer (.inl (s.setMc_rxTake c _)) hexec
  case mcRead c => exact command_takesOnlyTheOffer (.inl (s.returns_rxTake _)) hexec
  case range => exact command_takesOnlyTheOffer (.inl (rangeEffect_rxTake s)) hexec
  case encodeStick mm => exact command_takesOnlyTheOffer (.inl rfl) hexec
  case sendDrive mm => exact command_takesOnlyTheOffer (.inl (sendDriveEffect_rxTake s mm)) hexec
  case faultEval => exact command_takesOnlyTheOffer (.inl (faultEvalEffect_rxTake s)) hexec
  case collEval => exact command_takesOnlyTheOffer (.inl (collEvalEffect_rxTake s)) hexec
  case robotRxPoll => exact command_takesOnlyTheOffer (robotReceive_takesOnlyTheOffer s) hexec
  case remoteRxPoll => exact command_takesOnlyTheOffer (remoteReceive_takesOnlyTheOffer s) hexec
  case confirmPoll => exact command_takesOnlyTheOffer (.inl (confirmPollEffect_rxTake s)) hexec
  case tick0 | tick1 | echoFall | echoRise | txAccept | rangeSample | reset | driveByte | ack1 |
      msgClear0 | msgCollision1 | msgObstacle2 | msgOther => cases hcmd

end

theorem plainArg_eq_some {a : BitVec 4} {i j : Instr} (h : plainArg a i = some j) : i = j := by
  unfold plainArg at h
  split at h
  case isTrue => exact Option.some.inj h
  case isFalse => cases h

/-- The command port carries commands only (30_encoding.md R71). -/
theorem commandOf_space {w : Byte} {i : Instr} (h : commandOf w = some i) : (encode i).1 = .cmd := by
  unfold commandOf at h
  simp only at h
  split at h
  case h_1 | h_2 | h_3 | h_4 | h_6 | h_7 =>
    obtain ⟨_, -, rfl⟩ := Option.map_eq_some_iff.1 h
    rfl
  case h_5 | h_8 | h_9 | h_10 | h_11 | h_12 =>
    obtain rfl := plainArg_eq_some h
    rfl
  case h_13 => cases h

theorem decode_cmd_space {w : Byte} {i : Instr} (h : decode .cmd w = .ok i) :
    (encode i).1 = .cmd := by
  simp only [decode] at h
  split at h
  case h_1 j hj =>
    obtain rfl := Except.ok.inj h
    exact commandOf_space hj
  case h_2 => cases h

/-- A command word that runs raises `rx_take` only with a byte on the receive port, which `res` reports. -/
theorem applyStimulus_cmd_takes {st : Stimulus} {s t : State} (hsource : st.source = .cmd)
    (hrun : applyStimulus st s = .next t) (htake : t.rxTake = true) :
    ∃ b, st.ports.rx = some b ∧ t.res = pollResult (some b) := by
  obtain ⟨i, hdecode, hexec⟩ := applyStimulus_next _ _ _ hrun
  rw [hsource] at hdecode
  have htakes : TakesOnlyTheOffer (s.present st) t :=
    exec_takesOnlyTheOffer (decode_cmd_space hdecode) hexec
  refine htakes.resolve_left fun hkept => ?_
  rw [hkept, State.present_rxTake] at htake
  cases htake

/-- Tag 0x20 is TX_ACCEPT, which runs only with a byte pending (43_link.md R182). -/
theorem applyStimulus_txAccept {env : Ports} {s t : State}
    (hrun : applyStimulus { source := .evt, word := 0x20, ports := env } s = .next t) :
    ∃ b, s.txp = some b := by
  obtain ⟨i, hdecode, hexec⟩ := applyStimulus_next _ _ _ hrun
  obtain rfl : Instr.txAccept = i := Except.ok.inj hdecode
  exact Option.isSome_iff_exists.1 ((eventWhen_next _ _ _ _).1 hexec).1

/-! ### The two nodes: parts and moves -/

namespace TwoNodes
variable (S : TwoNodes) (n : Role)

@[simp] theorem setCore_core (s : State) : (S.setCore n s).core n = s := by cases n <;> rfl
@[simp] theorem setCore_inbox (s : State) (k : Role) : (S.setCore n s).inbox k = S.inbox k := by
  cases n <;> rfl
@[simp] theorem setCore_channel (s : State) : (S.setCore n s).channel = S.channel := by
  cases n <;> rfl

@[simp] theorem setInbox_core (bs : List Byte) (k : Role) : (S.setInbox n bs).core k = S.core k := by
  cases n <;> rfl
@[simp] theorem setInbox_inbox (bs : List Byte) : (S.setInbox n bs).inbox n = bs := by
  cases n <;> rfl
@[simp] theorem setInbox_inbox_peer (bs : List Byte) :
    (S.setInbox n bs).inbox (peer n) = S.inbox (peer n) := by cases n <;> rfl
@[simp] theorem setInbox_peer_inbox (bs : List Byte) :
    (S.setInbox (peer n) bs).inbox n = S.inbox n := by cases n <;> rfl
@[simp] theorem setInbox_channel (bs : List Byte) : (S.setInbox n bs).channel = S.channel := by
  cases n <;> rfl

theorem offered_eq_some {offer : Bool} {b : Byte} (h : S.offered n offer = some b) :
    offer = true ∧ S.inbox n = b :: (S.inbox n).tail := by
  unfold offered at h
  split at h
  case isTrue hoffer => exact ⟨hoffer, (List.cons_head?_tail h).symm⟩
  case isFalse => cases h

section
variable (t : State)

@[simp] theorem afterCommand_core : (S.afterCommand n t).core n = t := by
  unfold afterCommand
  split <;> simp
@[simp] theorem afterCommand_channel : (S.afterCommand n t).channel = S.channel := by
  unfold afterCommand
  split <;> simp
@[simp] theorem afterCommand_inbox_peer :
    (S.afterCommand n t).inbox (peer n) = S.inbox (peer n) := by
  unfold afterCommand
  split <;> simp
theorem afterCommand_inbox_kept (h : t.rxTake = false) :
    (S.afterCommand n t).inbox n = S.inbox n := by simp [afterCommand, h]
theorem afterCommand_inbox_taken (h : t.rxTake = true) :
    (S.afterCommand n t).inbox n = (S.inbox n).tail := by simp [afterCommand, h]

@[simp] theorem afterEvent_channel (tag : Byte) : (S.afterEvent n tag t).channel = S.channel := by
  simp [afterEvent]
@[simp] theorem afterEvent_inbox (tag : Byte) : (S.afterEvent n tag t).inbox n = S.inbox n := by
  simp [afterEvent]
@[simp] theorem afterEvent_inbox_peer (tag : Byte) : (S.afterEvent n tag t).inbox (peer n) =
    S.inbox (peer n) ++ sentByte tag (S.core n) := by simp [afterEvent]

end
end TwoNodes

theorem sentByte_txAccept {s : State} {b : Byte} (h : s.txp = some b) : sentByte 0x20 s = [b] := by
  simp [sentByte, h]

theorem sentByte_other {tag : Byte} (h : tag ≠ 0x20) (s : State) : sentByte tag s = [] := if_neg h

theorem ChModel.mayLose_iff (c : ChModel) : c.mayLose = true ↔ c = .lossy ∨ c = .any := by
  cases c <;> decide

theorem ChModel.mayAlter_iff (c : ChModel) : c.mayAlter = true ↔ c = .any := by
  cases c <;> decide

section
variable {S T : TwoNodes} {n : Role}

theorem systemStep_command_next {word : Byte} {env : Ports} {offer : Bool}
    (h : systemStep (.command n word env offer) S = .next T) :
    ∃ t, applyStimulus { source := .cmd, word := word, ports := { env with rx := S.offered n offer } }
      (S.core n) = .next t ∧ T = S.afterCommand n t := by
  simp only [systemStep] at h
  split at h
  case h_1 t ht =>
    obtain rfl := Host.Outcome.next.inj h
    exact ⟨t, ht, rfl⟩
  case h_2 | h_3 => cases h

theorem systemStep_event_next {tag : Byte} {env : Ports}
    (h : systemStep (.event n tag env) S = .next T) :
    ∃ t, applyStimulus { source := .evt, word := tag, ports := env } (S.core n) = .next t ∧
      T = S.afterEvent n tag t := by
  simp only [systemStep] at h
  split at h
  case h_1 t ht =>
    obtain rfl := Host.Outcome.next.inj h
    exact ⟨t, ht, rfl⟩
  case h_2 | h_3 => cases h

theorem systemStep_lose_next {place : Nat} (h : systemStep (.lose n place) S = .next T) :
    S.channel.mayLose = true ∧ place < (S.inbox n).length ∧
      T = S.setInbox n ((S.inbox n).eraseIdx place) := by
  simp only [systemStep] at h
  split at h
  case isTrue hallowed =>
    obtain ⟨hlose, hplace⟩ := (Bool.and_eq_true _ _).mp hallowed
    exact ⟨hlose, of_decide_eq_true hplace, (Host.Outcome.next.inj h).symm⟩
  case isFalse => cases h

theorem systemStep_alter_next {place : Nat} {b : Byte}
    (h : systemStep (.alter n place b) S = .next T) :
    S.channel.mayAlter = true ∧ place < (S.inbox n).length ∧
      T = S.setInbox n ((S.inbox n).set place b) := by
  simp only [systemStep] at h
  split at h
  case isTrue hallowed =>
    obtain ⟨halter, hplace⟩ := (Bool.and_eq_true _ _).mp hallowed
    exact ⟨halter, of_decide_eq_true hplace, (Host.Outcome.next.inj h).symm⟩
  case isFalse => cases h

/-- A command that raises `rx_take` has consumed the oldest byte of its node's channel. -/
theorem command_consumes_oldest {word : Byte} {env : Ports} {offer : Bool} {t : State}
    (hrun : applyStimulus
      { source := .cmd, word := word, ports := { env with rx := S.offered n offer } } (S.core n) = .next t)
    (htake : t.rxTake = true) :
    offer = true ∧ ∃ b, S.inbox n = b :: (S.afterCommand n t).inbox n ∧
      t.res = 0x100 ||| b.zeroExtend 64 := by
  obtain ⟨b, hrx, hres⟩ := applyStimulus_cmd_takes rfl hrun htake
  obtain ⟨hoffer, hinbox⟩ := S.offered_eq_some n hrx
  rw [← S.afterCommand_inbox_taken n t htake] at hinbox
  exact ⟨hoffer, b, hinbox, hres⟩

/-- An accepted TX_ACCEPT puts the pending byte at the end of the channel to the peer. -/
theorem txAccept_sends_pending {env : Ports} {t : State}
    (hrun : applyStimulus { source := .evt, word := 0x20, ports := env } (S.core n) = .next t) :
    ∃ b, (S.core n).txp = some b ∧
      (S.afterEvent n 0x20 t).inbox (peer n) = S.inbox (peer n) ++ [b] := by
  obtain ⟨b, htxp⟩ := applyStimulus_txAccept hrun
  exact ⟨b, htxp, by rw [S.afterEvent_inbox_peer, sentByte_txAccept htxp]⟩

end

/-- Settles O60, move by move along the table of 20_memory.md R62. -/
theorem channelsKeepTheirOrder : Obligations.ChannelsKeepTheirOrder := by
  intro m S T h
  cases m
  case command n word env offer =>
    obtain ⟨t, hrun, rfl⟩ := systemStep_command_next h
    simp only [S.afterCommand_core]
    exact ⟨S.afterCommand_channel n t, S.afterCommand_inbox_peer n t, S.afterCommand_inbox_kept n t,
      command_consumes_oldest hrun⟩
  case event n tag env =>
    obtain ⟨t, hrun, rfl⟩ := systemStep_event_next h
    refine ⟨S.afterEvent_channel n t tag, S.afterEvent_inbox n t tag, ?accepted, fun hother => ?other⟩
    case accepted =>
      rintro rfl
      exact txAccept_sends_pending hrun
    case other => rw [S.afterEvent_inbox_peer, sentByte_other hother, List.append_nil]
  case lose n place =>
    obtain ⟨hlose, hplace, rfl⟩ := systemStep_lose_next h
    exact ⟨S.setInbox_channel n _, S.channel.mayLose_iff.1 hlose, hplace, S.setInbox_inbox n _,
      S.setInbox_inbox_peer n _⟩
  case alter n place b =>
    obtain ⟨halter, hplace, rfl⟩ := systemStep_alter_next h
    exact ⟨S.setInbox_channel n _, S.channel.mayAlter_iff.1 halter, hplace, S.setInbox_inbox n _,
      S.setInbox_inbox_peer n _⟩

end Sys2Proof.Machine
end

section
/-!
PROOFS. The decoder and the encoder (30_encoding.md R70-R73, R76-R79, R82, R87): what each operand of a command word
decodes to, the fields of a drive byte, and from these that decoder and encoder are inverse to one another.
-/
namespace Sys2Proof

/-! ### Command words and event tags -/

theorem cmdOp_toNat (w : Byte) : (cmdOp w).toNat = w.toNat / 16 := by
  simp only [cmdOp, BitVec.extractLsb'_toNat, Nat.shiftRight_eq_div_pow]
  omega

theorem cmdArg_toNat (w : Byte) : (cmdArg w).toNat = w.toNat % 16 := by
  simp only [cmdArg, BitVec.extractLsb'_toNat, Nat.shiftRight_zero]

/-- A word is its `op` and its `arg`, which have four bits each (30_encoding.md R70). -/
theorem word_eq_of_op_arg {w : Byte} {op arg : Nat} (hop : (cmdOp w).toNat = op)
    (harg : (cmdArg w).toNat = arg) : w = BitVec.ofNat 8 (16 * op + arg) := by
  rw [cmdOp_toNat] at hop
  rw [cmdArg_toNat] at harg
  have hnat : 16 * op + arg = w.toNat := by omega
  rw [hnat, BitVec.ofNat_toNat, BitVec.setWidth_eq]

theorem clockArg_eq_some {a : BitVec 4} {c : ClockId} (h : clockArg a = some c) :
    a.toNat = (clockCode c).toNat := by
  unfold clockArg at h
  split at h
  case h_1 ha | h_2 ha => cases h; exact ha
  case h_3 => cases h

theorem motorArg_eq_some {a : BitVec 4} {mm : MotorSel} (h : motorArg a = some mm) :
    a.toNat = (motorSelCode mm).toNat := by
  unfold motorArg at h
  split at h
  case h_1 ha | h_2 ha | h_3 ha | h_4 ha => cases h; exact ha
  case h_5 => cases h

theorem plainArg_arg_eq_zero {a : BitVec 4} {i j : Instr} (h : plainArg a i = some j) : a.toNat = 0 := by
  unfold plainArg at h
  split at h
  case isTrue ha => exact congrArg BitVec.toNat ha
  case isFalse => cases h

/-- `w` is the word of the well-formed instruction `i`. -/
def Instr.HasWord (i : Instr) (w : Byte) : Prop := i.wf = true ∧ (encode i).2 = w

theorem commandOf_hasWord {w : Byte} {i : Instr} (h : commandOf w = some i) : i.HasWord w := by
  unfold commandOf at h
  simp only at h
  split at h
  case h_1 hop | h_2 hop | h_3 hop | h_4 hop =>
    obtain ⟨c, harg, rfl⟩ := Option.map_eq_some_iff.1 h
    rw [word_eq_of_op_arg hop (clockArg_eq_some harg)]
    cases c <;> exact ⟨rfl, rfl⟩
  case h_6 hop | h_7 hop =>
    obtain ⟨mm, harg, rfl⟩ := Option.map_eq_some_iff.1 h
    rw [word_eq_of_op_arg hop (motorArg_eq_some harg)]
    cases mm <;> exact ⟨rfl, rfl⟩
  case h_5 hop | h_8 hop | h_9 hop | h_10 hop | h_11 hop | h_12 hop =>
    obtain rfl := Machine.plainArg_eq_some h
    rw [word_eq_of_op_arg hop (plainArg_arg_eq_zero h)]
    exact ⟨rfl, rfl⟩
  case h_13 => cases h

theorem eventOf_hasWord {tag : Byte} {i : Instr} (h : eventOf tag = some i) : i.HasWord tag := by
  unfold eventOf at h
  split at h
  case h_1 ht | h_2 ht | h_3 ht | h_4 ht | h_5 ht | h_6 ht | h_7 ht =>
    obtain rfl := Option.some.inj h
    exact ⟨rfl, BitVec.eq_of_toNat_eq ht.symm⟩
  case h_8 => cases h

/-! ### Drive bytes and messages -/

section
variable (m : Motor) (f : Bool) (g : BitVec 6)

/-- Bit 0 is `motor_select` (30_encoding.md R76). -/
theorem driveByteCode_getLsbD_zero : (driveByteCode m f g).getLsbD 0 = decide (m = .left) := by
  cases m <;> cases f <;> simp [driveByteCode, motorBit]

/-- Bit 1 is `direction` (30_encoding.md R76). -/
theorem driveByteCode_getLsbD_one : (driveByteCode m f g).getLsbD 1 = f := by
  cases m <;> cases f <;> simp [driveByteCode, motorBit]

/-- Bits 2 to 7 are the magnitude (30_encoding.md R76). -/
theorem driveByteCode_getLsbD_add_two (k : Nat) (hk : k < 6) :
    (driveByteCode m f g).getLsbD (2 + k) = g.getLsbD k := by
  have hpow : 4 ≤ 2 ^ (2 + k) := Nat.pow_le_pow_right (n := 2) (by omega) (Nat.le_add_right 2 k)
  have hlow {b : Byte} (hb : b.toNat < 4) : b.getLsbD (2 + k) = false :=
    Nat.testBit_lt_two_pow (hb.trans_le hpow)
  have hdir : (if f then (2 : Byte) else 0).getLsbD (2 + k) = false := hlow (by cases f <;> decide)
  have hmotor : (motorBit m).getLsbD (2 + k) = false := hlow (by cases m <;> decide)
  simp only [driveByteCode, BitVec.getLsbD_or, hdir, hmotor, Bool.or_false, BitVec.getLsbD_shiftLeft,
    BitVec.truncate_eq_setWidth, BitVec.getLsbD_setWidth, Nat.add_sub_cancel_left]
  have hk8 : k < 8 := by omega
  have hlt : 2 + k < 8 := by omega
  have hge : ¬ 2 + k < 2 := by omega
  simp only [hk8, hlt, hge, decide_true, decide_false, Bool.not_false, Bool.true_and]

theorem driveByteCode_magnitude : (driveByteCode m f g).extractLsb' 2 6 = g :=
  BitVec.eq_of_getLsbD_eq fun k hk => by
    rw [BitVec.getLsbD_extractLsb', driveByteCode_getLsbD_add_two m f g k hk]
    simp only [hk, decide_true, Bool.true_and]

theorem driveByteOf_driveByteCode : driveByteOf (driveByteCode m f g) = .driveByte m f g := by
  simp only [driveByteOf, driveByteCode_getLsbD_zero, driveByteCode_getLsbD_one, driveByteCode_magnitude]
  cases m <;> rfl

end

/-- Every byte is a drive byte, of the fields read from it (30_encoding.md R77). -/
theorem driveByteOf_hasWord (b : Byte) : (driveByteOf b).HasWord b := by
  refine ⟨rfl, BitVec.eq_of_getLsbD_eq fun k hk => ?_⟩
  simp only [driveByteOf, encode]
  match k with
  | 0 => rw [driveByteCode_getLsbD_zero]; cases b.getLsbD 0 <;> rfl
  | 1 => exact driveByteCode_getLsbD_one _ _ _
  | k + 2 =>
    have hk6 : k < 6 := by omega
    rw [Nat.add_comm k 2, driveByteCode_getLsbD_add_two _ _ _ k hk6, BitVec.getLsbD_extractLsb']
    simp only [hk6, decide_true, Bool.true_and]

theorem awaitedByteOf_other {b : Byte} (hb : b ≠ 0x31) : awaitedByteOf b = driveByteOf b := if_neg hb

theorem awaitedByteOf_hasWord (b : Byte) : (awaitedByteOf b).HasWord b := by
  by_cases hb : b = 0x31
  case pos => subst hb; exact ⟨rfl, rfl⟩
  case neg => rw [awaitedByteOf_other hb]; exact driveByteOf_hasWord b

theorem msgOther_wf_iff (b : Byte) : (Instr.msgOther b).wf = true ↔ b ≠ 0x30 ∧ b ≠ 0x31 ∧ b ≠ 0x32 := by
  simp only [Instr.wf, Bool.and_eq_true, bne_iff_ne, and_assoc]

theorem remoteByteOf_other {b : Byte} (hb : (Instr.msgOther b).wf = true) :
    remoteByteOf b = .msgOther b := by
  obtain ⟨hclear, hcollision, hobstacle⟩ := (msgOther_wf_iff b).1 hb
  simp only [remoteByteOf, if_neg hclear, if_neg hcollision, if_neg hobstacle]

theorem remoteByteOf_hasWord (b : Byte) : (remoteByteOf b).HasWord b := by
  by_cases hb : (Instr.msgOther b).wf = true
  case pos => rw [remoteByteOf_other hb]; exact ⟨hb, rfl⟩
  case neg =>
    rw [msgOther_wf_iff] at hb
    have hnamed : b = 0x30 ∨ b = 0x31 ∨ b = 0x32 := by tauto
    rcases hnamed with rfl | rfl | rfl <;> exact ⟨rfl, rfl⟩

/-! ### Decoder and encoder -/

/-- Settles O52: the operands of a command have few values, and a link byte is read back by its fields. -/
theorem decodeInvertsEncode : Obligations.DecodeInvertsEncode := by
  intro i hwf
  cases i
  case mcStart c | mcStop c | mcReset c | mcRead c => cases c <;> rfl
  case encodeStick mm | sendDrive mm => cases mm <;> rfl
  case driveByte m f g => exact congrArg Except.ok (driveByteOf_driveByteCode m f g)
  case msgOther b => exact congrArg Except.ok (remoteByteOf_other hwf)
  case range | faultEval | collEval | robotRxPoll | remoteRxPoll | confirmPoll | tick0 | tick1 | echoFall |
      echoRise | txAccept | rangeSample | reset | ack1 | msgClear0 | msgCollision1 | msgObstacle2 => rfl

theorem decode_cmd_eq_ok {w : Byte} {i : Instr} : decode .cmd w = .ok i ↔ commandOf w = some i := by
  cases h : commandOf w <;> simp [decode, h]

theorem decode_evt_eq_ok {tag : Byte} {i : Instr} : decode .evt tag = .ok i ↔ eventOf tag = some i := by
  cases h : eventOf tag <;> simp [decode, h]

/-- Settles O53, one space at a time. -/
theorem encodeInvertsDecode : Obligations.EncodeInvertsDecode := by
  intro sp w i h
  cases sp
  case cmd => exact commandOf_hasWord (decode_cmd_eq_ok.1 h)
  case evt => exact eventOf_hasWord (decode_evt_eq_ok.1 h)
  case robotRunning => obtain rfl := Except.ok.inj h; exact driveByteOf_hasWord w
  case robotAwaiting => obtain rfl := Except.ok.inj h; exact awaitedByteOf_hasWord w
  case remote => obtain rfl := Except.ok.inj h; exact remoteByteOf_hasWord w

/-- Settles O54: each word is the encoding of its instruction, bit for bit. -/
theorem writtenOutWordsDecode : Obligations.WrittenOutWordsDecode :=
  ⟨decodeInvertsEncode (.mcStart .mc1) rfl, decodeInvertsEncode .range rfl,
    decodeInvertsEncode (.encodeStick .default2) rfl, decodeInvertsEncode .robotRxPoll rfl,
    decodeInvertsEncode .echoRise rfl, decodeInvertsEncode .rangeSample rfl,
    decodeInvertsEncode (.driveByte .left true 0b101100) rfl, decodeInvertsEncode .ack1 rfl,
    decodeInvertsEncode .msgObstacle2 rfl⟩

/-! ### Reserved command words -/

theorem clockArg_eq_none (a : BitVec 4) : clockArg a = none ↔ 2 ≤ a.toNat := by
  unfold clockArg
  split
  case h_1 ha | h_2 ha => simp [ha]
  case h_3 =>
    simp only [imp_false] at *
    simp only [true_iff]
    omega

theorem motorArg_eq_none (a : BitVec 4) : motorArg a = none ↔ 4 ≤ a.toNat := by
  unfold motorArg
  split
  case h_1 ha | h_2 ha | h_3 ha | h_4 ha => simp [ha]
  case h_5 =>
    simp only [imp_false] at *
    simp only [true_iff]
    omega

theorem plainArg_eq_none (a : BitVec 4) (i : Instr) : plainArg a i = none ↔ 1 ≤ a.toNat := by
  have hzero : a = 0 ↔ a.toNat = 0 := BitVec.toNat_inj.symm
  unfold plainArg
  split
  case isTrue ha => simp [ha]
  case isFalse ha =>
    rw [hzero] at ha
    simp only [true_iff]
    omega

/-- The reserved words, by `op` and `arg` (30_encoding.md R82). -/
theorem commandOf_eq_none (w : Byte) : commandOf w = none ↔
    w.toNat / 16 ∈ [0x0, 0xD, 0xE, 0xF] ∨
    (w.toNat / 16 ∈ [0x1, 0x2, 0x3, 0x4] ∧ 2 ≤ w.toNat % 16) ∨
    (w.toNat / 16 ∈ [0x6, 0x7] ∧ 4 ≤ w.toNat % 16) ∨
    (w.toNat / 16 ∈ [0x5, 0x8, 0x9, 0xA, 0xB, 0xC] ∧ 1 ≤ w.toNat % 16) := by
  rw [← cmdOp_toNat, ← cmdArg_toNat]
  unfold commandOf
  simp only
  split
  case h_1 hop | h_2 hop | h_3 hop | h_4 hop => simp [hop, clockArg_eq_none]
  case h_6 hop | h_7 hop => simp [hop, motorArg_eq_none]
  case h_5 hop | h_8 hop | h_9 hop | h_10 hop | h_11 hop | h_12 hop => simp [hop, plainArg_eq_none]
  case h_13 =>
    have hlt : (cmdOp w).toNat < 16 := (cmdOp w).isLt
    simp only [imp_false] at *
    simp only [true_iff, List.mem_cons, List.not_mem_nil, or_false]
    omega

theorem decode_cmd_reserved (w : Byte) :
    decode .cmd w = .error (.reservedCommand w) ↔ commandOf w = none := by
  cases h : commandOf w <;> simp [decode, h]

end Sys2Proof
end

section
/-!
PROOFS. Where a word is read and who may run it (30_encoding.md R70, R73, R82, R83, R87): refusals by role and of
reserved words, what a link byte does at either node, and the word that the host places.
-/
namespace Sys2Proof.Machine

/-! ### Refusals -/

theorem command_wrongRole {r : Role} {s : State} (effect : State → State) (hrole : s.params.role ≠ r) :
    command (some r) s effect = .refused .wrongRole := by
  simp only [command, issueRefusal, if_neg hrole]

theorem command_both_not_wrongRole (s : State) (effect : State → State) :
    command none s effect ≠ .refused .wrongRole := by
  cases h : s.held <;> simp [command, issueRefusal, h]

/-- Settles O42: the refusal comes from the role that each command belongs to. -/
theorem commandOfTheOtherRoleIsRefused : Obligations.CommandOfTheOtherRoleIsRefused := by
  intro s
  simp only [List.forall_mem_cons, List.not_mem_nil, false_imp_iff, implies_true, and_true]
  refine ⟨fun hremote => ?robotCommands, fun hrobot mm => ?remoteCommands, fun c => ?clockCommands⟩
  case robotCommands =>
    have hrole : s.params.role ≠ .robot := by rw [hremote]; decide
    exact ⟨command_wrongRole _ hrole, command_wrongRole _ hrole, command_wrongRole _ hrole,
      command_wrongRole _ hrole⟩
  case remoteCommands =>
    have hrole : s.params.role ≠ .remote := by rw [hrobot]; decide
    exact ⟨command_wrongRole _ hrole, command_wrongRole _ hrole, command_wrongRole _ hrole,
      command_wrongRole _ hrole⟩
  case clockCommands =>
    exact ⟨command_both_not_wrongRole s _, command_both_not_wrongRole s _, command_both_not_wrongRole s _,
      command_both_not_wrongRole s _⟩

theorem applyStimulus_rejected {st : Stimulus} {s : State} {e : Illegal}
    (h : decode (s.spaceOf st.source) st.word = .error e) :
    applyStimulus st s = .refused (illegalRefusal e) := by
  simp only [applyStimulus, h]

/-- Settles O43: the reserved words are those without a command, and the step asks the decoder first. -/
theorem reservedCommandWordsAreRefused : Obligations.ReservedCommandWordsAreRefused := by
  refine ⟨fun w => (decode_cmd_reserved w).trans (commandOf_eq_none w), ?count, ?refused⟩
  case count => rfl
  case refused =>
    intro s st rest hpending hsource hdecode
    have hspace : ({ s with pending := rest } : State).spaceOf st.source = .cmd := by rw [hsource]; rfl
    rw [step_of_pending hpending]
    exact applyStimulus_rejected (hspace ▸ hdecode)

/-! ### Link bytes at the robot -/

section
variable (m : Motor) (f : Bool) (g : BitVec 6)

theorem driveMotor_driveByteCode : driveMotor (driveByteCode m f g) = m := by
  rw [driveMotor, driveByteCode_getLsbD_zero]
  cases m <;> rfl

/-- The duty is the magnitude in its place, bits 2 to 7. -/
theorem driveDuty_eq (b : Byte) : driveDuty b = (b.extractLsb' 2 6).zeroExtend 8 <<< 2 := by
  revert b
  decide

theorem driveActuator_driveByteCode : driveActuator (driveByteCode m f g) =
    { dirsig := if f then .forward else .reverse, duty := g.zeroExtend 8 <<< 2 } := by
  simp only [driveActuator, driveSignal, driveByteCode_getLsbD_one, driveDuty_eq, driveByteCode_magnitude]

end

section
variable {s : State}

/-- In Running any byte drives a motor (43_link.md R187). -/
theorem robotReceive_running (hrun : s.hs = .running) (b : Byte) :
    robotReceive (some b) s =
      (s.takeByte.returns (pollResult (some b))).setAct (driveMotor b) (driveActuator b) := by
  simp only [robotReceive, robotByte, State.takeByte_hs, hrun]
  cases driveMotor b <;> rfl

/-- While the robot waits, only the acknowledgement has an effect (43_link.md R187). -/
theorem robotReceive_discards (hwait : s.hs = .awaitingAck) {b : Byte} (hb : b ≠ msgCollision) :
    robotReceive (some b) s = s.takeByte.returns (pollResult (some b)) := by
  simp only [robotReceive, robotByte, State.takeByte_hs, hwait, if_neg hb]

/-- The acknowledgement ends the wait (43_link.md R187). -/
theorem robotReceive_ack (hwait : s.hs = .awaitingAck) :
    robotReceive (some msgCollision) s =
      { s.takeByte.returns (pollResult (some msgCollision)) with hs := .running } := by
  simp only [robotReceive, robotByte, State.takeByte_hs, hwait, if_pos]
  rfl

/-- Settles O33: the byte is polled, and its fields are those of the instruction. -/
theorem linkBytesAtTheRobot : Obligations.LinkBytesAtTheRobot := by
  intro m f g s hrole hheld b hb t a ht ha
  have hdrive : exec (.driveByte m f g) s = .next (robotReceive (some b) s) :=
    hb ▸ command_role_runs .robot s _ hrole hheld
  have hack : exec .ack1 s = .next (robotReceive (some msgCollision) s) :=
    command_role_runs .robot s _ hrole hheld
  have htaken : s.takeByte.returns (pollResult (some b)) = t := ht.symm
  have hacked : s.takeByte.returns (pollResult (some msgCollision)) = a := ha.symm
  refine ⟨fun hrun => ?drives, fun hwait hne => ?discards, fun hwait heq => ?ends, fun hwait => ?acks,
    fun hrun => ?ackDrives⟩
  case drives =>
    rw [hdrive, robotReceive_running hrun, htaken, hb, driveMotor_driveByteCode,
      driveActuator_driveByteCode]
  case discards => rw [hdrive, robotReceive_discards hwait hne, htaken]
  case ends =>
    obtain rfl : b = msgCollision := heq
    rw [hdrive, robotReceive_ack hwait, htaken]
  case acks => rw [hack, robotReceive_ack hwait, hacked]
  case ackDrives =>
    rw [hack, robotReceive_running hrun, hacked]
    rfl

/-! ### Link bytes at the remote -/

/-- While latched the remote polls nothing (43_link.md R189). -/
theorem remoteReceive_latched (hlatched : s.rfsm = .latched) (r : Option Byte) :
    remoteReceive r s = s.returns 0 := by
  simp only [remoteReceive, hlatched, pollResult]

theorem remoteReceive_idle (hidle : s.rfsm = .idle) (b : Byte) :
    remoteReceive (some b) s = (remoteByte b s.takeByte).returns (pollResult (some b)) := by
  simp only [remoteReceive, hidle]

theorem remoteByte_other {b : Byte} (hb : (Instr.msgOther b).wf = true) :
    remoteByte b s = { s with disp := .commError } := by
  obtain ⟨hclear, hcollision, hobstacle⟩ := (msgOther_wf_iff b).1 hb
  exact (if_neg hclear).trans ((if_neg hcollision).trans (if_neg hobstacle))

/-- Settles O34: idle the byte decides the display and the latch, and latched nothing is polled. -/
theorem linkBytesAtTheRemote : Obligations.LinkBytesAtTheRemote := by
  intro s hrole hheld
  have hpoll (r : Option Byte) :
      command (some .remote) s (remoteReceive r) = .next (remoteReceive r s) :=
    command_role_runs .remote s _ hrole hheld
  refine ⟨?idle, ?latched⟩
  case idle =>
    rintro hidle t rfl
    have hbyte (b : Byte) : command (some .remote) s (remoteReceive (some b)) =
        .next ((remoteByte b s.takeByte).returns (pollResult (some b))) :=
      (hpoll _).trans (congrArg _ (remoteReceive_idle hidle b))
    refine ⟨hbyte msgClear, hbyte msgCollision, hbyte msgObstacle, fun b hb => ?_⟩
    exact (hbyte b).trans (by rw [remoteByte_other hb]; rfl)
  case latched =>
    intro hlatched i hi
    have hquiet (r : Option Byte) : command (some .remote) s (remoteReceive r) = .next (s.returns 0) :=
      (hpoll r).trans (congrArg _ (remoteReceive_latched hlatched r))
    rcases hi with rfl | rfl | rfl | ⟨b, rfl, -⟩ <;> exact hquiet _

end

/-! ### The placed word -/

theorem nodeParams_role {i : Instr} {r : Role} (h : instrRole i = some r) (p : Params) :
    (nodeParams p i).role = r := by
  simp only [nodeParams, h]

theorem asNodeOf_built {s : State} {i : Instr} (h : (nodeParams s.params i).configRefusal = none) :
    s.asNodeOf (some i) = { s with params := nodeParams s.params i } := by
  simp only [State.asNodeOf, h]

theorem decodeTableWord_eq_some {n w : Nat} {i : Instr} (h : decodeTableWord n w = some i) :
    decode (tableSpace (BitVec.ofNat 8 w)) (BitVec.ofNat 8 w) = .ok i := by
  unfold decodeTableWord at h
  split at h
  case isTrue =>
    split at h
    case h_1 j hj => rw [hj, Option.some.inj h]
    case h_2 => cases h
  case isFalse => cases h

theorem tableSource_link_ne_ack {w : Byte} (h : tableSource w = .link) : w ≠ 0x31 := by
  rintro rfl
  exact absurd h (by decide)

theorem tableLinkRole_eq_remote {w : Byte} (h : tableLinkRole w = .remote) : w = 0x32 := by
  unfold tableLinkRole at h
  split at h
  case isTrue hw => exact hw
  case isFalse => cases h

/-- The node that has a bare number reads it as the table does, in every phase: the acknowledgement, which
alone depends on the phase, is a command number (assumption log 7). -/
theorem decode_spaceOf_tableSource {s : State} {w : Byte} {i : Instr}
    (hdecode : decode (tableSpace w) w = .ok i)
    (hrole : ∀ r, instrRole i = some r → s.params.role = r) :
    decode (s.spaceOf (tableSource w)) w = .ok i := by
  unfold tableSpace at hdecode
  cases hsource : tableSource w <;> simp only [hsource] at hdecode
  case cmd | evt => exact hdecode
  case link =>
    cases hnode : tableLinkRole w <;> simp only [hnode] at hdecode
    case remote =>
      obtain rfl := tableLinkRole_eq_remote hnode
      obtain rfl : Instr.msgObstacle2 = i := Except.ok.inj hdecode
      have hremote : s.params.role = .remote := hrole .remote rfl
      simp only [State.spaceOf, hremote]
      exact hdecode
    case robot =>
      obtain rfl := Except.ok.inj hdecode
      have hrobot : s.params.role = .robot := hrole .robot rfl
      cases hs : s.hs
      case running => simp only [State.spaceOf, hrobot, hs, decode]
      case awaitingAck =>
        simp only [State.spaceOf, hrobot, hs, decode, awaitedByteOf_other (tableSource_link_ne_ack hsource)]

/-- Settles O51: the word is the next stimulus, on the node whose instruction it is. -/
theorem placedWordIsTheNextInstruction : Obligations.PlacedWordIsTheNextInstruction := by
  intro s w i p hword hp hbuilt
  obtain rfl : p = nodeParams s.params i := hp
  have hplaced : s.withFetchWord 8 w =
      { s with
        params := nodeParams s.params i
        pending := { source := tableSource (BitVec.ofNat 8 w), word := BitVec.ofNat 8 w, ports := s.ports } ::
          s.pending } := by
    simp only [State.withFetchWord, State.placeTableWord, hword, asNodeOf_built hbuilt]
  rw [hplaced, step_of_pending rfl, applyStimulus_decoded (i := i), runInstr_built]
  · rfl
  · exact hbuilt
  · exact decode_spaceOf_tableSource (decodeTableWord_eq_some hword) fun r hr => nodeParams_role hr _

end Sys2Proof.Machine
end

section
/-!
PROOFS. The result port (30_encoding.md R75): every effect leaves `res` alone or writes it, and none reads it.
-/
namespace Sys2Proof.Machine

/-- `s` with `v` on the `res` port. -/
def State.withRes (s : State) (v : BitVec 64) : State := { s with res := v }

section
variable (s : State)

@[simp] theorem State.withRes_txp (v : BitVec 64) : (s.withRes v).txp = s.txp := rfl
@[simp] theorem State.withRes_hs (v : BitVec 64) : (s.withRes v).hs = s.hs := rfl
@[simp] theorem State.withRes_params (v : BitVec 64) : (s.withRes v).params = s.params := rfl
@[simp] theorem State.withRes_echoLvl (v : BitVec 64) : (s.withRes v).echoLvl = s.echoLvl := rfl
@[simp] theorem State.withRes_rfsm (v : BitVec 64) : (s.withRes v).rfsm = s.rfsm := rfl

theorem State.ite_withRes (c : Prop) [Decidable c] (t u : State) (v : BitVec 64) :
    (if c then t else u).withRes v = if c then t.withRes v else u.withRes v :=
  apply_ite (State.withRes · v) c t u

/-! ### Effects that leave the result port -/

/-- On `s` the effect neither reads nor writes `res`. -/
def LeavesRes (effect : State → State) (s : State) : Prop :=
  ∀ v, effect (s.withRes v) = (effect s).withRes v

theorem tickEffect_leavesRes (i : ClockId) : LeavesRes (tickEffect i) s := by
  intro v
  cases i <;> rfl

theorem echoSample_leavesRes (level : Bool) : LeavesRes (echoSample level) s := by
  intro v
  simp only [echoSample, State.withRes_params, State.withRes_echoLvl, State.ite_withRes]
  rfl

theorem txAcceptEffect_leavesRes : LeavesRes txAcceptEffect s := by
  intro v
  cases htxp : s.txp <;> simp only [txAcceptEffect, State.withRes_txp, htxp]
  case some => rfl

theorem robotByte_leavesRes (b : Byte) : LeavesRes (robotByte b) s := by
  intro v
  cases hs : s.hs <;> simp only [robotByte, State.withRes_hs, State.ite_withRes, hs]
  case running => cases driveMotor b <;> rfl
  case awaitingAck => rfl

theorem remoteByte_leavesRes (b : Byte) : LeavesRes (remoteByte b) s := by
  intro v
  simp only [remoteByte, State.ite_withRes]
  rfl

/-! ### Effects that write the result port -/

/-- On `s` the effect writes `res` and does not read it. -/
def WritesRes (effect : State → State) (s : State) : Prop := ∀ v, effect (s.withRes v) = effect s

theorem mcStartEffect_writesRes (i : ClockId) : WritesRes (mcStartEffect i) s := by
  intro v
  cases i <;> rfl

theorem mcStopEffect_writesRes (i : ClockId) : WritesRes (mcStopEffect i) s := by
  intro v
  cases i <;> rfl

theorem mcResetEffect_writesRes (i : ClockId) : WritesRes (mcResetEffect i) s := by
  intro v
  cases i <;> rfl

theorem mcReadEffect_writesRes (i : ClockId) : WritesRes (mcReadEffect i) s := by
  intro v
  cases i <;> rfl

theorem rangeEffect_writesRes : WritesRes rangeEffect s := fun _ => rfl

theorem rangeSampleEffect_writesRes : WritesRes rangeSampleEffect s := fun _ => rfl

theorem encodeEffect_writesRes (mm : MotorSel) : WritesRes (encodeEffect mm) s := fun _ => rfl

theorem sendDriveEffect_writesRes (mm : MotorSel) : WritesRes (sendDriveEffect mm) s := fun _ => rfl

theorem faultEvalEffect_writesRes : WritesRes faultEvalEffect s := fun _ => rfl

theorem collEvalEffect_writesRes : WritesRes collEvalEffect s := fun _ => rfl

theorem confirmPollEffect_writesRes : WritesRes confirmPollEffect s := fun _ => rfl

theorem robotReceive_writesRes (r : Option Byte) : WritesRes (robotReceive r) s := by
  intro v
  cases r
  case none => rfl
  case some b =>
    have hbyte := robotByte_leavesRes s.takeByte b v
    exact (congrArg (State.returns · (pollResult (some b))) hbyte :)

theorem remoteReceive_writesRes (r : Option Byte) : WritesRes (remoteReceive r) s := by
  intro v
  cases hl : s.rfsm <;> simp only [remoteReceive, State.withRes_rfsm, hl]
  case latched => rfl
  case idle =>
    cases r
    case none => rfl
    case some b =>
      have hbyte := remoteByte_leavesRes s.takeByte b v
      exact (congrArg (State.returns · (pollResult (some b))) hbyte :)

end

/-! ### No instruction reads the result port -/

section
variable {s : State}

/-- `o'` is the outcome `o`, but for `res` in its next state. -/
def SameButRes (o o' : StepOutcome) : Prop :=
  match o with
  | .next t => ∃ r, o' = .next (t.withRes r)
  | .fault f => o' = .fault f
  | .refused q => o' = .refused q

/-- From `s` with another `res` the effect gives its next state, with some `res`. -/
def BlindToRes (effect : State → State) (s : State) : Prop :=
  ∀ v, ∃ r, effect (s.withRes v) = (effect s).withRes r

theorem LeavesRes.blind {effect : State → State} (he : LeavesRes effect s) : BlindToRes effect s :=
  fun v => ⟨v, he v⟩

theorem WritesRes.blind {effect : State → State} (he : WritesRes effect s) : BlindToRes effect s :=
  fun v => ⟨(effect s).res, he v⟩

theorem BlindToRes.next {effect : State → State} (he : BlindToRes effect s) (v : BitVec 64) :
    SameButRes (.next (effect s)) (.next (effect (s.withRes v))) := by
  obtain ⟨r, heffect⟩ := he v
  exact ⟨r, congrArg _ heffect⟩

theorem command_sameButRes (need : Option Role) {effect : State → State} (he : BlindToRes effect s)
    (v : BitVec 64) : SameButRes (command need s effect) (command need (s.withRes v) effect) := by
  have hissue : issueRefusal need (s.withRes v) = issueRefusal need s := rfl
  unfold command
  rw [hissue]
  cases issueRefusal need s
  case none => exact he.next v
  case some q => rfl

theorem eventWhen_sameButRes (enabled : Bool) {effect : State → State} (he : BlindToRes effect s)
    (v : BitVec 64) :
    SameButRes (eventWhen enabled s effect) (eventWhen enabled (s.withRes v) effect) := by
  cases enabled
  case true => exact he.next v
  case false => rfl

theorem execReset_sameButRes (v : BitVec 64) : SameButRes (execReset s) (execReset (s.withRes v)) := by
  have hsame : execReset (s.withRes v) = execReset s := rfl
  rw [hsame]
  cases execReset s
  case next t => exact ⟨t.res, rfl⟩
  case fault => rfl
  case refused => rfl

theorem exec_sameButRes (i : Instr) (v : BitVec 64) : SameButRes (exec i s) (exec i (s.withRes v)) := by
  cases i
  case mcStart c => exact command_sameButRes _ (mcStartEffect_writesRes s c).blind v
  case mcStop c => exact command_sameButRes _ (mcStopEffect_writesRes s c).blind v
  case mcReset c => exact command_sameButRes _ (mcResetEffect_writesRes s c).blind v
  case mcRead c => exact command_sameButRes _ (mcReadEffect_writesRes s c).blind v
  case range => exact command_sameButRes _ (rangeEffect_writesRes s).blind v
  case encodeStick mm => exact command_sameButRes _ (encodeEffect_writesRes s mm).blind v
  case sendDrive mm => exact command_sameButRes _ (sendDriveEffect_writesRes s mm).blind v
  case faultEval => exact command_sameButRes _ (faultEvalEffect_writesRes s).blind v
  case collEval => exact command_sameButRes _ (collEvalEffect_writesRes s).blind v
  case confirmPoll => exact command_sameButRes _ (confirmPollEffect_writesRes s).blind v
  case robotRxPoll | driveByte | ack1 =>
    exact command_sameButRes _ (robotReceive_writesRes s _).blind v
  case remoteRxPoll | msgClear0 | msgCollision1 | msgObstacle2 | msgOther =>
    exact command_sameButRes _ (remoteReceive_writesRes s _).blind v
  case tick0 => exact (tickEffect_leavesRes s .mc0).blind.next v
  case tick1 => exact (tickEffect_leavesRes s .mc1).blind.next v
  case echoFall => exact (echoSample_leavesRes s false).blind.next v
  case echoRise => exact (echoSample_leavesRes s true).blind.next v
  case txAccept => exact eventWhen_sameButRes _ (txAcceptEffect_leavesRes s).blind v
  case rangeSample => exact eventWhen_sameButRes _ (rangeSampleEffect_writesRes s).blind v
  case reset => exact execReset_sameButRes v

/-- Settles O48: no issue condition reads `res`, and every effect leaves it or writes over it. -/
theorem noInstructionReadsTheResultPort : Obligations.NoInstructionReadsTheResultPort := by
  intro i s v
  have hsame := exec_sameButRes (s := s) i v
  unfold SameButRes at hsame
  cases hexec : exec i s <;> rw [hexec] at hsame <;> exact hsame

end
end Sys2Proof.Machine
end

section
/-!
PROOFS. The microsecond clocks (40_clock.md): the arithmetic of one clock, the commands and the tick on a state, and
what each instruction may make of a clock, said once for all of them.
-/
namespace Sys2Proof.Machine

/-! ### One clock -/

section
variable {n : Nat} {c d : Clock}

theorem Clock.tick_stopped (hrun : c.run = false) : c.tick n = c := by
  simp [Clock.tick, hrun]

theorem Clock.tick_rollover (hrun : c.run = true) (hcnt : c.cnt + 1 = n) :
    c.tick n = { run := true, ovf := c.ovf + 1, cnt := 0 } := by
  simp [Clock.tick, hrun, hcnt]

theorem Clock.tick_counts (hrun : c.run = true) (hcnt : c.cnt + 1 ≠ n) :
    c.tick n = { run := true, ovf := c.ovf, cnt := c.cnt + 1 } := by
  simp [Clock.tick, hrun, hcnt]

@[simp] theorem Clock.count_start : c.start.count n = c.count n := rfl
@[simp] theorem Clock.count_stop : c.stop.count n = c.count n := rfl
@[simp] theorem Clock.count_stoppedClock : stoppedClock.count n = 0 := Nat.zero_mul n

theorem toNat_add_one_of_ne_allOnes {v : BitVec 64} (h : v ≠ BitVec.allOnes 64) :
    (v + 1).toNat = v.toNat + 1 := by
  have hmax : v.toNat ≠ 2 ^ 64 - 1 := fun hv => h (BitVec.eq_of_toNat_eq (hv.trans BitVec.toNat_allOnes.symm))
  bv_omega

/-- The rollover trades the `n` ticks of CNT for one of OVF, so both kinds of tick raise the count by 1. -/
theorem Clock.count_tick (hrun : c.run = true) (hovf : c.ovf ≠ BitVec.allOnes 64) :
    (c.tick n).count n = c.count n + 1 := by
  by_cases hcnt : c.cnt + 1 = n
  case pos =>
    rw [Clock.tick_rollover hrun hcnt]
    simp only [Clock.count, toNat_add_one_of_ne_allOnes hovf, Nat.succ_mul]
    omega
  case neg =>
    rw [Clock.tick_counts hrun hcnt]
    rfl

theorem Clock.count_le_count_tick (hovf : c.ovf ≠ BitVec.allOnes 64) : c.count n ≤ (c.tick n).count n := by
  cases hrun : c.run
  case false => rw [Clock.tick_stopped hrun]
  case true => exact (Clock.count_tick hrun hovf).symm ▸ Nat.le_succ _

theorem Clock.exactMicros_le {p : ClockParams} (h : c.count p.range ≤ d.count p.range) :
    c.exactMicros p ≤ d.exactMicros p :=
  Nat.div_le_div_right (Nat.mul_le_mul_right _ (Nat.mul_le_mul_right _ h))

@[simp] theorem Clock.elapsed_stoppedClock (p : ClockParams) : stoppedClock.elapsed p = 0 := by
  simp [Clock.elapsed, Clock.exactMicros]

/-- Settles O4: the ticks' whole microseconds cancel the frequency before the floor is taken. -/
theorem elapsedIsCountTimesTickWhenTheTickIsWhole :
    Obligations.ElapsedIsCountTimesTickWhenTheTickIsWhole := by
  intro p c k hfreq hwhole
  have hmicros : c.exactMicros p = c.count p.range * k :=
    calc c.count p.range * p.prescaler * 1000000 / p.freq
        = c.count p.range * k * p.freq / p.freq := by
          rw [Nat.mul_assoc, hwhole, Nat.mul_assoc]
      _ = c.count p.range * k := Nat.mul_div_cancel _ hfreq
  exact congrArg (BitVec.ofNat 64) hmicros

end

/-! ### The commands and the tick -/

/-- Settles O1: the state is the effect's own, and `res` its free value. -/
theorem mcStartAndMcStopKeepTheCount : Obligations.McStartAndMcStopKeepTheCount := by
  refine ⟨fun i => ⟨decodeInvertsEncode (.mcStart i) rfl, decodeInvertsEncode (.mcStop i) rfl⟩, ?_⟩
  intro i s hheld
  exact ⟨⟨_, _, command_both_runs s (mcStartEffect i) hheld⟩,
    ⟨_, _, command_both_runs s (mcStopEffect i) hheld⟩⟩

theorem mcResetEffect_elapsed (i : ClockId) (s : State) : (mcResetEffect i s).elapsed i = 0 := by
  have hstopped : (mcResetEffect i s).mc i = stoppedClock := s.mc_setMc_same i stoppedClock
  rw [State.elapsed, hstopped, Clock.elapsed_stoppedClock]

/-- Settles O2: the clock is the stopped one, whose elapsed time is 0. -/
theorem mcResetStopsAndZeroesTheClock : Obligations.McResetStopsAndZeroesTheClock := by
  refine ⟨fun i => decodeInvertsEncode (.mcReset i) rfl, ?runs, ?zero⟩
  case runs =>
    intro i s hheld
    exact ⟨_, _, command_both_runs s (mcResetEffect i) hheld⟩
  case zero =>
    intro i s t h
    obtain ⟨-, rfl⟩ := (command_next _ _ _ _).1 h
    exact mcResetEffect_elapsed i s

/-- Settles O3: the returned value is the model's `elapsed`, written out. -/
theorem mcReadReturnsTheElapsedMicroseconds : Obligations.McReadReturnsTheElapsedMicroseconds :=
  ⟨fun i => decodeInvertsEncode (.mcRead i) rfl,
    fun i s hheld => command_both_runs s (mcReadEffect i) hheld⟩

/-- The timer tick event of a clock (30_encoding.md R73). -/
def tickOf : ClockId → Instr
  | .mc0 => .tick0
  | .mc1 => .tick1

section
variable {s : State} {i : ClockId}

@[simp] theorem State.setMc_mc (s : State) (i : ClockId) : s.setMc i (s.mc i) = s := by
  cases i <;> rfl

theorem exec_tickOf (i : ClockId) (s : State) : exec (tickOf i) s = .next (tickEffect i s) := by
  cases i <;> rfl

theorem exec_tickOf_stopped (hrun : (s.mc i).run = false) : exec (tickOf i) s = .next s := by
  rw [exec_tickOf, tickEffect, Clock.tick_stopped hrun, State.setMc_mc]

theorem exec_tickOf_rollover (hrun : (s.mc i).run = true)
    (hcnt : (s.mc i).cnt + 1 = (s.params.clock i).range) :
    exec (tickOf i) s = .next (s.setMc i { run := true, ovf := (s.mc i).ovf + 1, cnt := 0 }) := by
  rw [exec_tickOf, tickEffect, Clock.tick_rollover hrun hcnt]

theorem exec_tickOf_counts (hrun : (s.mc i).run = true)
    (hcnt : (s.mc i).cnt + 1 ≠ (s.params.clock i).range) :
    exec (tickOf i) s =
      .next (s.setMc i { run := true, ovf := (s.mc i).ovf, cnt := (s.mc i).cnt + 1 }) := by
  rw [exec_tickOf, tickEffect, Clock.tick_counts hrun hcnt]

theorem exec_tickOf_count {t : State} (h : exec (tickOf i) s = .next t) (hrun : (s.mc i).run = true)
    (hovf : (s.mc i).ovf ≠ BitVec.allOnes 64) :
    (t.mc i).count (s.params.clock i).range = (s.mc i).count (s.params.clock i).range + 1 := by
  rw [exec_tickOf] at h
  obtain rfl := Host.Outcome.next.inj h
  rw [tickEffect, State.mc_setMc_same, Clock.count_tick hrun hovf]

end

/-- Settles O5: the three cases of a tick, on each clock. -/
theorem timerTickCountsAndRollsOver : Obligations.TimerTickCountsAndRollsOver :=
  ⟨decodeInvertsEncode .tick0 rfl, decodeInvertsEncode .tick1 rfl, fun _ =>
    ⟨exec_tickOf_stopped (i := .mc0), exec_tickOf_rollover (i := .mc0), exec_tickOf_counts (i := .mc0),
      exec_tickOf_stopped (i := .mc1), exec_tickOf_rollover (i := .mc1), exec_tickOf_counts (i := .mc1)⟩⟩

/-! ### What an instruction makes of a clock -/

/-- The instruction may make the clock `d` of clock `j`, which stands at `c` and has range `n`
(40_clock.md R108): the echo line and the range sample are MC0's. -/
inductive ClockWrite (j : ClockId) (n : Nat) (c : Clock) : (instr : Instr) → (d : Clock) → Prop where
  | kept (instr : Instr) : ClockWrite j n c instr c
  | start : ClockWrite j n c (.mcStart j) c.start
  | stop : ClockWrite j n c (.mcStop j) c.stop
  | clear : ClockWrite j n c (.mcReset j) stoppedClock
  | tick : ClockWrite j n c (tickOf j) (c.tick n)
  | rise (hj : j = .mc0) : ClockWrite j n c .echoRise c.start
  | fall (hj : j = .mc0) : ClockWrite j n c .echoFall c.stop
  | sample (hj : j = .mc0) : ClockWrite j n c .rangeSample stoppedClock
  | reset : ClockWrite j n c .reset stoppedClock

/-- From `s` to `t` each clock is written as `instr` may write it. -/
def ClocksWritten (instr : Instr) (s t : State) : Prop :=
  ∀ j, ClockWrite j (s.params.clock j).range (s.mc j) instr (t.mc j)

section
variable (s : State)

/-- Writing one clock by its own instruction keeps the other (40_clock.md R108). -/
theorem setMc_clocksWritten {instr : Instr} {i : ClockId} {c : Clock}
    (hc : ClockWrite i (s.params.clock i).range (s.mc i) instr c) :
    ClocksWritten instr s (s.setMc i c) := by
  intro j
  by_cases hij : i = j
  case pos =>
    subst hij
    rwa [State.mc_setMc_same]
  case neg =>
    rw [State.mc_setMc_other s i j c hij]
    exact .kept instr

theorem mcStartEffect_clocksWritten (i : ClockId) : ClocksWritten (.mcStart i) s (mcStartEffect i s) :=
  setMc_clocksWritten s .start

theorem mcStopEffect_clocksWritten (i : ClockId) : ClocksWritten (.mcStop i) s (mcStopEffect i s) :=
  setMc_clocksWritten s .stop

theorem mcResetEffect_clocksWritten (i : ClockId) : ClocksWritten (.mcReset i) s (mcResetEffect i s) :=
  setMc_clocksWritten s .clear

theorem tickEffect_clocksWritten (i : ClockId) : ClocksWritten (tickOf i) s (tickEffect i s) :=
  setMc_clocksWritten s .tick

theorem echoRise_clocksWritten : ClocksWritten .echoRise s (echoSample true s) := by
  unfold echoSample
  split
  case isTrue => exact setMc_clocksWritten s (i := .mc0) (.rise rfl)
  case isFalse => exact fun j => .kept _

theorem echoFall_clocksWritten : ClocksWritten .echoFall s (echoSample false s) := by
  unfold echoSample
  split
  case isTrue => exact setMc_clocksWritten s (i := .mc0) (.fall rfl)
  case isFalse => exact fun j => .kept _

theorem rangeSampleEffect_clocksWritten : ClocksWritten .rangeSample s (rangeSampleEffect s) :=
  setMc_clocksWritten s (i := .mc0) (.sample rfl)

theorem resetEffect_clocksWritten : ClocksWritten .reset s (resetEffect s) := by
  intro j
  have hstopped : (resetEffect s).mc j = stoppedClock := by cases j <;> rfl
  rw [hstopped]
  exact .reset

/-! ### The effects that keep both clocks -/

/-- `t` has the clocks of `s`. -/
structure SameClocks (t : State) : Prop where
  mc0 : t.mc0 = s.mc0
  mc1 : t.mc1 = s.mc1

variable {s} in
theorem SameClocks.mc {t : State} (h : SameClocks s t) (j : ClockId) : t.mc j = s.mc j := by
  cases j
  case mc0 => exact h.mc0
  case mc1 => exact h.mc1

variable {s} in
theorem SameClocks.clocksWritten {t : State} (h : SameClocks s t) (instr : Instr) :
    ClocksWritten instr s t := by
  intro j
  rw [h.mc j]
  exact .kept instr

theorem mcReadEffect_sameClocks (i : ClockId) : SameClocks s (mcReadEffect i s) :=
  ⟨s.returns_mc0 _, s.returns_mc1 _⟩

theorem encodeEffect_sameClocks (mm : MotorSel) : SameClocks s (encodeEffect mm s) := ⟨rfl, rfl⟩

theorem rangeEffect_sameClocks : SameClocks s (rangeEffect s) := by
  unfold rangeEffect
  split <;> exact ⟨rfl, rfl⟩

theorem sendDriveEffect_sameClocks (mm : MotorSel) : SameClocks s (sendDriveEffect mm s) := by
  unfold sendDriveEffect
  split <;> exact ⟨rfl, rfl⟩

theorem faultEvalEffect_sameClocks : SameClocks s (faultEvalEffect s) := by
  unfold faultEvalEffect
  (repeat' split) <;> exact ⟨rfl, rfl⟩

theorem collEvalEffect_sameClocks : SameClocks s (collEvalEffect s) := by
  unfold collEvalEffect
  (repeat' split) <;> exact ⟨rfl, rfl⟩

theorem robotByte_sameClocks (b : Byte) : SameClocks s (robotByte b s) := by
  unfold robotByte
  split
  case h_1 => exact ⟨s.setAct_mc0 _ _, s.setAct_mc1 _ _⟩
  case h_2 => split <;> exact ⟨rfl, rfl⟩

theorem robotReceive_sameClocks (r : Option Byte) : SameClocks s (robotReceive r s) := by
  cases r
  case none => exact ⟨rfl, rfl⟩
  case some b =>
    obtain ⟨hmc0, hmc1⟩ := robotByte_sameClocks s.takeByte b
    exact ⟨hmc0, hmc1⟩

theorem remoteByte_sameClocks (b : Byte) : SameClocks s (remoteByte b s) := by
  unfold remoteByte
  (repeat' split) <;> exact ⟨rfl, rfl⟩

theorem remoteReceive_sameClocks (r : Option Byte) : SameClocks s (remoteReceive r s) := by
  unfold remoteReceive
  split
  case h_1 => exact ⟨rfl, rfl⟩
  case h_2 =>
    cases r
    case none => exact ⟨rfl, rfl⟩
    case some b =>
      obtain ⟨hmc0, hmc1⟩ := remoteByte_sameClocks s.takeByte b
      exact ⟨hmc0, hmc1⟩

theorem confirmPollEffect_sameClocks : SameClocks s (confirmPollEffect s) := by
  unfold confirmPollEffect
  (repeat' split) <;> exact ⟨rfl, rfl⟩

theorem txAcceptEffect_sameClocks : SameClocks s (txAcceptEffect s) := by
  unfold txAcceptEffect
  split <;> exact ⟨rfl, rfl⟩

end

/-! ### Every instruction -/

theorem exec_clocksWritten {i : Instr} {s t : State} (h : exec i s = .next t) : ClocksWritten i s t := by
  rcases exec_cases h with ⟨c, rfl, -, rfl⟩ | ⟨c, rfl, -, rfl⟩ | ⟨c, rfl, -, rfl⟩ | ⟨c, -, -, rfl⟩ |
    ⟨-, -, -, rfl⟩ | ⟨mm, -, -, -, rfl⟩ | ⟨mm, -, -, -, rfl⟩ | ⟨-, -, -, rfl⟩ | ⟨-, -, -, rfl⟩ |
    ⟨r, -, -, -, rfl⟩ | ⟨r, -, -, -, rfl⟩ | ⟨-, -, -, rfl⟩ | ⟨c, ⟨rfl, rfl⟩ | ⟨rfl, rfl⟩, rfl⟩ |
    ⟨level, ⟨rfl, rfl⟩ | ⟨rfl, rfl⟩, rfl⟩ | ⟨b, -, -, rfl⟩ | ⟨rfl, -, rfl⟩ | ⟨rfl, -, rfl⟩
  · exact mcStartEffect_clocksWritten s c
  · exact mcStopEffect_clocksWritten s c
  · exact mcResetEffect_clocksWritten s c
  · exact (mcReadEffect_sameClocks s c).clocksWritten i
  · exact (rangeEffect_sameClocks s).clocksWritten i
  · exact (encodeEffect_sameClocks s mm).clocksWritten i
  · exact (sendDriveEffect_sameClocks s mm).clocksWritten i
  · exact (faultEvalEffect_sameClocks s).clocksWritten i
  · exact (collEvalEffect_sameClocks s).clocksWritten i
  · exact (robotReceive_sameClocks s r).clocksWritten i
  · exact (remoteReceive_sameClocks s r).clocksWritten i
  · exact (confirmPollEffect_sameClocks s).clocksWritten i
  · exact tickEffect_clocksWritten s .mc0
  · exact tickEffect_clocksWritten s .mc1
  · exact echoRise_clocksWritten s
  · exact echoFall_clocksWritten s
  · exact (txAcceptEffect_sameClocks s).clocksWritten i
  · exact rangeSampleEffect_clocksWritten s
  · exact resetEffect_clocksWritten s

/-- Only the three instructions that clear a clock lower its count. -/
theorem ClockWrite.count_le {j : ClockId} {n : Nat} {c d : Clock} {i : Instr} (h : ClockWrite j n c i d)
    (hclear : i ≠ .mcReset j) (hreset : i ≠ .reset) (hsample : j = .mc0 → i ≠ .rangeSample)
    (hovf : c.ovf ≠ BitVec.allOnes 64) : c.count n ≤ d.count n := by
  cases h
  case kept => exact Nat.le_refl _
  case start | rise => exact Clock.count_start.ge
  case stop | fall => exact Clock.count_stop.ge
  case tick => exact Clock.count_le_count_tick hovf
  case clear => exact absurd rfl hclear
  case sample hj => exact absurd rfl (hsample hj)
  case reset => exact absurd rfl hreset

/-- Settles O6: no write but a clear lowers the count, and a tick of a running clock is one count. -/
theorem clockNeverRunsBackward : Obligations.ClockNeverRunsBackward := by
  refine ⟨?backward, fun _ _ => exec_tickOf_count (i := .mc0), fun _ _ => exec_tickOf_count (i := .mc1)⟩
  case backward =>
    intro j i s t h hclear hreset hsample hovf
    have hcount := (exec_clocksWritten h j).count_le hclear hreset hsample hovf
    exact ⟨hcount, Clock.exactMicros_le hcount⟩

/-- The instructions that can change a clock (40_clock.md R108). -/
def clockWriters : ClockId → List Instr
  | .mc0 => [.mcStart .mc0, .mcStop .mc0, .mcReset .mc0, .tick0, .echoRise, .echoFall, .rangeSample, .reset]
  | .mc1 => [.mcStart .mc1, .mcStop .mc1, .mcReset .mc1, .tick1, .reset]

theorem ClockWrite.mem_clockWriters {j : ClockId} {n : Nat} {c d : Clock} {i : Instr}
    (h : ClockWrite j n c i d) (hne : d ≠ c) : i ∈ clockWriters j := by
  cases h
  case kept => exact absurd rfl hne
  case start | stop | clear | tick | reset => cases j <;> simp [clockWriters, tickOf]
  case rise hj | fall hj | sample hj => subst hj; simp [clockWriters]

/-- Settles O7: the writers of each clock are the instructions with a write other than `kept`. -/
theorem onlyItsOwnInstructionsChangeAClock : Obligations.OnlyItsOwnInstructionsChangeAClock :=
  fun _ _ _ h =>
    ⟨(exec_clocksWritten h .mc0).mem_clockWriters, (exec_clocksWritten h .mc1).mem_clockWriters⟩

end Sys2Proof.Machine
end

section
/-!
PROOFS. The range finder (41_range.md): the distance conversion, whose monotonicity is that of binary32 rounding, and
the echo edges, the trigger and the sample on a state.
-/
namespace Sys2Proof.Machine

/-! ### Rounding keeps the order -/

/-- Were the order of the two roundings reversed, `n / d` would lie at or above their midpoint and `m / d` at or
below it, as each is nearest to its own: the fractions would be equal. -/
theorem f32Units_f32OfUnits_mono {n m d : Nat} (hd : 0 < d) (hnm : n ≤ m)
    (hm : m < (2 ^ 25 - 1) * 2 ^ 252 * d) :
    f32Units (f32OfUnits n d) ≤ f32Units (f32OfUnits m d) := by
  have hn : n < (2 ^ 25 - 1) * 2 ^ 252 * d := hnm.trans_lt hm
  obtain ⟨-, hnearN, -⟩ :=
    binaryRoundingIsNearestEven n d (f32OfUnits m d) hd hn (f32Exponent_f32OfUnits_lt m d hd hm)
  obtain ⟨-, hnearM, -⟩ :=
    binaryRoundingIsNearestEven m d (f32OfUnits n d) hd hm (f32Exponent_f32OfUnits_lt n d hd hn)
  by_contra hlt
  have hscaled : f32Units (f32OfUnits m d) * d < f32Units (f32OfUnits n d) * d :=
    Nat.mul_lt_mul_of_pos_right (by omega) hd
  have heq : n = m := by
    zify at hscaled
    omega
  exact hlt (heq ▸ le_rfl)

theorem f32Units_f32OfNat_mono {a b : Nat} (hab : a ≤ b) (hb : b ≤ 2 ^ 64) :
    f32Units (f32OfNat a) ≤ f32Units (f32OfNat b) :=
  f32Units_f32OfUnits_mono Nat.one_pos (Nat.mul_le_mul_right f32One hab) (by unfold f32One; omega)

/-- The power of two past the last 64-bit time is exact, and bounds the rounding of them all. -/
theorem f32Units_f32OfNat_le {a : Nat} (ha : a ≤ 2 ^ 64) : f32Units (f32OfNat a) ≤ 2 ^ 64 * f32One :=
  (f32Units_f32OfNat_mono ha le_rfl).trans (by decide +kernel)

theorem f32Units_f32Mul_mono {a b c : F32} (hab : f32Units a ≤ f32Units b)
    (hb : f32Units b * f32Units c < (2 ^ 25 - 1) * 2 ^ 252 * f32One) :
    f32Units (f32Mul a c) ≤ f32Units (f32Mul b c) :=
  f32Units_f32OfUnits_mono (Nat.two_pow_pos 149) (Nat.mul_le_mul_right _ hab) hb

/-! ### The distance -/

/-- `CM_PER_US` is below one, so no 64-bit time comes near the overflow threshold. -/
theorem f32Units_mul_cmPerUs_lt {a : Nat} (ha : a ≤ 2 ^ 64) :
    f32Units (f32OfNat a) * f32Units Config.cmPerUs < (2 ^ 25 - 1) * 2 ^ 252 * f32One :=
  calc f32Units (f32OfNat a) * f32Units Config.cmPerUs
      ≤ 2 ^ 64 * f32One * f32Units Config.cmPerUs := Nat.mul_le_mul_right _ (f32Units_f32OfNat_le ha)
    _ < (2 ^ 25 - 1) * 2 ^ 252 * f32One := by decide +kernel

/-- Each part of the conversion keeps the order: the two roundings, the truncation and the saturation. -/
theorem distanceCm_mono {a b : BitVec 64} (hab : a.toNat ≤ b.toNat) : distanceCm a ≤ distanceCm b := by
  have hb : b.toNat ≤ 2 ^ 64 := b.isLt.le
  have hproduct : f32Units (f32Mul (f32OfNat a.toNat) Config.cmPerUs) ≤
      f32Units (f32Mul (f32OfNat b.toNat) Config.cmPerUs) :=
    f32Units_f32Mul_mono (f32Units_f32OfNat_mono hab hb) (f32Units_mul_cmPerUs_lt hb)
  exact min_le_min_right 65535 (Nat.div_le_div_right hproduct)

theorem distanceCm_before_saturation : distanceCm 3854999 < 65535 := by decide +kernel

theorem distanceCm_at_saturation : distanceCm 3855000 = 65535 := by decide +kernel

/-- Settles O12: the distance is monotone, so its values on both sides of the boundary decide the rest. -/
theorem distanceIsMonotoneAndSaturates : Obligations.DistanceIsMonotoneAndSaturates := by
  refine ⟨fun _ => rfl, fun _ _ => distanceCm_mono, fun e => ⟨fun hbefore => ?below, fun hfrom => ?above⟩⟩
  case below =>
    have hle : e.toNat ≤ (3854999 : BitVec 64).toNat := Nat.le_of_lt_succ hbefore
    exact (distanceCm_mono hle).trans_lt distanceCm_before_saturation
  case above =>
    have hle : (3855000 : BitVec 64).toNat ≤ e.toNat := hfrom
    exact (distanceCm_le e).antisymm (distanceCm_at_saturation ▸ distanceCm_mono hle)

/-! ### The echo line -/

section
variable {s : State} {level : Bool}

theorem echoSample_edge (hrole : s.params.role = .robot) (hedge : s.echoLvl ≠ level) :
    echoSample level s =
      { s with echoLvl := level, mc0 := if level then s.mc0.start else s.mc0.stop } :=
  if_pos ⟨hrole, hedge⟩

theorem echoSample_no_edge (hlevel : s.echoLvl = level) : echoSample level s = s :=
  if_neg fun ⟨_, hedge⟩ => hedge hlevel

theorem echoSample_remote (hremote : s.params.role = .remote) : echoSample level s = s :=
  if_neg fun ⟨hrobot, _⟩ => Params.remote_of_robot hrobot hremote

end

/-- Settles O8: both events are edges, whose effect does not depend on HS. -/
theorem echoEdgesStartAndStopMc0 : Obligations.EchoEdgesStartAndStopMc0 := by
  refine ⟨decodeInvertsEncode .echoRise rfl, decodeInvertsEncode .echoFall rfl, fun s hrole => ?_⟩
  refine ⟨fun hlow => ?rise, fun hhigh => ?fall⟩
  case rise => exact congrArg _ (echoSample_edge hrole (ne_true_of_eq_false hlow))
  case fall => exact congrArg _ (echoSample_edge hrole (ne_false_of_eq_true hhigh))

/-- Settles O9: a sample changes the state only at an edge of a robot. -/
theorem echoSamplesThatAreNoEdgeChangeNothing : Obligations.EchoSamplesThatAreNoEdgeChangeNothing :=
  fun _ => ⟨fun hhigh => congrArg _ (echoSample_no_edge hhigh),
    fun hlow => congrArg _ (echoSample_no_edge hlow),
    fun hremote => ⟨congrArg _ (echoSample_remote hremote), congrArg _ (echoSample_remote hremote)⟩⟩

/-! ### The two phases of RANGE -/

section
variable {s : State}

theorem rangeEffect_running (hrun : s.hs = .running) :
    rangeEffect s = (triggerPulse s).returnsNothing := by
  simp only [rangeEffect, hrun]

theorem rangeEffect_awaitingAck (hwait : s.hs = .awaitingAck) : rangeEffect s = s.returnsNothing := by
  simp only [rangeEffect, hwait]

end

/-- Settles O10: the handshake phase decides between the pulse and no effect, and `res` is the free value. -/
theorem rangePulsesOnlyWhileRunning : Obligations.RangePulsesOnlyWhileRunning := by
  intro s hrole hheld
  have hexec : exec .range s = .next (rangeEffect s) := command_role_runs .robot s rangeEffect hrole hheld
  exact ⟨fun hrun => ⟨_, _, hexec.trans (congrArg _ (rangeEffect_running hrun))⟩,
    fun hwait => ⟨_, _, hexec.trans (congrArg _ (rangeEffect_awaitingAck hwait))⟩⟩

/-- Settles O11: the event's condition is RNGP, and its effect is one state update. -/
theorem rangeSampleReadsConvertsAndClears : Obligations.RangeSampleReadsConvertsAndClears := by
  refine ⟨decodeInvertsEncode .rangeSample rfl, fun s => ⟨fun hdue => ?samples, fun hnone t h => ?disabled⟩⟩
  case samples => exact (eventWhen_next s.rngp s _ rangeSampleEffect).2 ⟨hdue, rfl⟩
  case disabled =>
    obtain ⟨hdue, -⟩ := (eventWhen_next _ _ _ _).1 h
    exact Bool.false_ne_true (hnone.symm.trans hdue)

end Sys2Proof.Machine
end

section
/-!
PROOFS. Binary32 at the scale of the stick encoder (00_scope.md R15): which values are exact, how far a rounded one
is from the fraction, and the products with a small whole number.
-/
namespace Sys2Proof.Machine

/-! ### Exact values -/

theorem roundHalfEven_mul_right (n d : Nat) {c : Nat} (hc : 0 < c) :
    roundHalfEven (n * c) (d * c) = roundHalfEven n d := by
  have hassoc : 2 * (n % d * c) = 2 * (n % d) * c := (Nat.mul_assoc _ _ _).symm
  simp only [roundHalfEven, Nat.mul_div_mul_right n d hc, Nat.mul_mod_mul_right, hassoc,
    Nat.mul_lt_mul_right hc, Bool.and_eq_true, Bool.or_eq_true, beq_iff_eq,
    Nat.mul_left_inj hc.ne']

/-- Rounding depends on the fraction alone, not on its terms. -/
theorem f32OfUnits_mul_right (n d : Nat) {c : Nat} (hc : 0 < c) :
    f32OfUnits (n * c) (d * c) = f32OfUnits n d := by
  simp only [f32OfUnits, f32Step, Nat.mul_div_mul_right n d hc, Nat.mul_right_comm d c,
    roundHalfEven_mul_right _ _ hc]

theorem roundHalfEven_mul_self (a : Nat) {d : Nat} (hd : 0 < d) : roundHalfEven (a * d) d = a := by
  refine le_antisymm (roundHalfEven_le hd ?_) (le_roundHalfEven hd le_rfl)
  omega

theorem f32Step_le {n d k : Nat} (hd : 0 < d) (hn : n < 2 ^ (24 + k) * d) : f32Step n d ≤ k := by
  have hq : n / d < 2 ^ (24 + k) := (Nat.div_lt_iff_lt_mul hd).mpr hn
  by_contra hlt
  have hne : n / d ≠ 0 := fun h => hlt (by simp [f32Step, h])
  have hlog : Nat.log2 (n / d) < 24 + k := (Nat.log2_lt hne).mpr hq
  unfold f32Step at hlt
  omega

theorem exact_value_lt {m k d : Nat} (hd : 0 < d) (hm : m < 2 ^ 24) (hk : k ≤ 252) :
    m * 2 ^ k * d < (2 ^ 25 - 1) * 2 ^ 252 * d :=
  Nat.mul_lt_mul_of_pos_right (Nat.mul_lt_mul_of_lt_of_le (by omega)
    (Nat.pow_le_pow_right (by omega) hk) (by positivity)) hd

/-- A whole number of 24 bits times a power of two is a binary32 value. -/
theorem f32Units_f32OfUnits_exact {m k d : Nat} (hd : 0 < d) (hm : m < 2 ^ 24) (hk : k ≤ 252) :
    f32Units (f32OfUnits (m * 2 ^ k * d) d) = m * 2 ^ k := by
  have htop : m * 2 ^ k * d < 2 ^ (24 + k) * d := by
    rw [pow_add]
    exact Nat.mul_lt_mul_of_pos_right (Nat.mul_lt_mul_of_pos_right hm (by positivity)) hd
  obtain ⟨j, hj⟩ := Nat.exists_eq_add_of_le (f32Step_le hd htop)
  have hpow : 2 ^ k = 2 ^ j * 2 ^ f32Step (m * 2 ^ k * d) d := by rw [← pow_add, Nat.add_comm, ← hj]
  have hsig : f32Significand (m * 2 ^ k * d) d = m * 2 ^ j :=
    calc f32Significand (m * 2 ^ k * d) d
        = roundHalfEven (m * 2 ^ j * (d * 2 ^ f32Step (m * 2 ^ k * d) d))
            (d * 2 ^ f32Step (m * 2 ^ k * d) d) := by
          refine congrArg (roundHalfEven · _) ?_
          nth_rewrite 1 [hpow]
          ring
      _ = m * 2 ^ j := roundHalfEven_mul_self _ (by positivity)
  rw [f32Units_f32OfUnits _ d hd (exact_value_lt hd hm hk), hsig, Nat.mul_assoc, ← hpow]

theorem f32Units_f32OfNat {a : Nat} (ha : a < 2 ^ 24) : f32Units (f32OfNat a) = a * f32One := by
  have hexact := f32Units_f32OfUnits_exact (k := 149) Nat.one_pos ha (by omega)
  rwa [Nat.mul_one] at hexact

/-! ### Bounds on a rounded value -/

section
variable {n m k d : Nat}

theorem le_f32Units_f32OfUnits (hd : 0 < d) (hm : m < 2 ^ 24) (hk : k ≤ 252) (h : m * 2 ^ k * d ≤ n)
    (hn : n < (2 ^ 25 - 1) * 2 ^ 252 * d) : m * 2 ^ k ≤ f32Units (f32OfUnits n d) :=
  (f32Units_f32OfUnits_exact hd hm hk).ge.trans (f32Units_f32OfUnits_mono hd h hn)

theorem f32Units_f32OfUnits_le (hd : 0 < d) (hm : m < 2 ^ 24) (hk : k ≤ 252) (h : n ≤ m * 2 ^ k * d) :
    f32Units (f32OfUnits n d) ≤ m * 2 ^ k := by
  exact (f32Units_f32OfUnits_mono hd h (exact_value_lt hd hm hk)).trans (f32Units_f32OfUnits_exact hd hm hk).le

/-- Below the top of the binade of step `k` the error is at most half a step of `k`. -/
theorem f32OfUnits_error (hd : 0 < d) (hk : k ≤ 228) (hn : n < 2 ^ (24 + k) * d) :
    2 * n ≤ 2 * (f32Units (f32OfUnits n d) * d) + d * 2 ^ k ∧
    2 * (f32Units (f32OfUnits n d) * d) ≤ 2 * n + d * 2 ^ k := by
  have hfin : n < (2 ^ 25 - 1) * 2 ^ 252 * d :=
    hn.trans_le (Nat.mul_le_mul_right d ((Nat.pow_le_pow_right (by omega) (by omega :
      24 + k ≤ 252)).trans (by omega)))
  obtain ⟨hlow, hhigh, -⟩ := roundHalfEven_error n (d * 2 ^ f32Step n d) (by positivity)
  have hvalue : f32Units (f32OfUnits n d) * d =
      roundHalfEven n (d * 2 ^ f32Step n d) * (d * 2 ^ f32Step n d) := by
    rw [f32Units_f32OfUnits n d hd hfin, f32Significand]; ring
  have hstep : d * 2 ^ f32Step n d ≤ d * 2 ^ k :=
    Nat.mul_le_mul_left d (Nat.pow_le_pow_right (by omega) (f32Step_le hd hn))
  omega

end

/-! ### Operations with a small whole number -/

/-- The factor one in units cancels, so the product is rounded from whole units. -/
theorem f32Mul_f32OfNat (a : F32) {b : Nat} (hb : b < 2 ^ 24) :
    f32Mul a (f32OfNat b) = f32OfUnits (f32Units a * b) 1 := by
  rw [f32Mul, f32Units_f32OfNat hb, ← Nat.mul_assoc]
  nth_rewrite 2 [← Nat.one_mul f32One]
  exact f32OfUnits_mul_right _ _ (Nat.two_pow_pos 149)

theorem f32Div_f32OfNat {a b : Nat} (ha : a < 2 ^ 24) (hb : b < 2 ^ 24) :
    f32Div (f32OfNat a) (f32OfNat b) = fl32 a b := by
  rw [f32Div, f32Units_f32OfNat ha, f32Units_f32OfNat hb]
  exact f32OfUnits_mul_right _ _ (Nat.two_pow_pos 149)

theorem le_f32Trunc_iff (t : Nat) (f : F32) : t ≤ f32Trunc f ↔ t * f32One ≤ f32Units f :=
  Nat.le_div_iff_mul_le (Nat.two_pow_pos 149)

theorem f32Trunc_mono {f g : F32} (h : f32Units f ≤ f32Units g) : f32Trunc f ≤ f32Trunc g :=
  Nat.div_le_div_right h

/-! ### Masking and saturation -/

theorem q4_toNat (n : Nat) : (q4 n).toNat = n % 256 / 4 * 4 := by
  have hmask : ∀ b : Byte, (b &&& 0xFC).toNat = b.toNat / 4 * 4 := by decide
  rw [q4, hmask, BitVec.toNat_ofNat]

theorem q4_sat8_toNat (n : Nat) : (q4 (sat8 n)).toNat = min n 255 / 4 * 4 := by
  rw [q4_toNat, sat8, Nat.mod_eq_of_lt (by omega)]

/-- A masked and saturated value is told by the multiples of 4 that it reaches. -/
theorem q4_sat8_eq {a b : Nat} (h : ∀ m, m % 4 = 3 → m ≤ 251 → (m + 1 ≤ a ↔ m + 1 ≤ b)) :
    q4 (sat8 a) = q4 (sat8 b) := by
  refine BitVec.eq_of_toNat_eq ?_
  rw [q4_sat8_toNat, q4_sat8_toNat]
  have hreachA := h (min a 255 / 4 * 4 - 1)
  have hreachB := h (min b 255 / 4 * 4 - 1)
  omega

end Sys2Proof.Machine
end

section
/-!
PROOFS. The axis calibrator (42_encoder.md R141, R142): the legal constants, and the records they give.
-/
namespace Sys2Proof.Machine

theorem absDiff_eq_natAbs (a b : Nat) : absDiff a b = ((a : Int) - b).natAbs := by
  unfold absDiff
  omega

theorem natCast_absDiff (a b : Nat) : (absDiff a b : Int) = |(a : Int) - b| := by
  rw [absDiff_eq_natAbs, Int.natCast_natAbs]

/-! ### Legal constants -/

/-- The three conditions of 42_encoder.md R141 on one axis. -/
def AxisLegal (a : AxisParams) : Prop :=
  a.posExt ≠ a.zero ∧ a.negExt ≠ a.zero ∧
  2 ≤ |(a.posExt.toNat : Int) - a.zero.toNat| ∧ 2 ≤ |(a.negExt.toNat : Int) - a.zero.toNat| ∧
  ((a.posExt.toNat : Int) - a.zero.toNat) * ((a.negExt.toNat : Int) - a.zero.toNat) < 0

theorem two_le_absDiff (a b : Nat) : 2 ≤ absDiff a b ↔ 2 ≤ |(a : Int) - b| := by
  rw [← natCast_absDiff]
  omega

theorem checkAxis_eq_none_iff (a : AxisParams) : checkAxis a = none ↔ AxisLegal a := by
  simp only [checkAxis, AxisLegal, ite_eq_iff, reduceCtorEq, and_false, false_or, not_or, not_lt, not_le,
    two_le_absDiff, and_assoc, and_true]

theorem checkCalibration_eq_none_iff (p : Params) :
    checkCalibration p = none ↔ AxisLegal p.x ∧ AxisLegal p.y := by
  rw [← checkAxis_eq_none_iff, ← checkAxis_eq_none_iff, checkCalibration]
  cases checkAxis p.x <;> simp

/-! ### One direction -/

section
variable {z e : Byte}

/-- An extreme that a legal axis can have: two steps from the centre or more (42_encoder.md R141). -/
def ExtremeLegal (z e : Byte) : Prop := 2 ≤ |(e.toNat : Int) - z.toNat|

theorem AxisLegal.posExt {a : AxisParams} (h : AxisLegal a) : ExtremeLegal a.zero a.posExt := by
  obtain ⟨-, -, hpos, -, -⟩ := h
  exact hpos

theorem AxisLegal.negExt {a : AxisParams} (h : AxisLegal a) : ExtremeLegal a.zero a.negExt := by
  obtain ⟨-, -, -, hneg, -⟩ := h
  exact hneg

theorem ExtremeLegal.ne (h : ExtremeLegal z e) : e ≠ z := by
  rintro rfl
  simp [ExtremeLegal] at h

theorem ExtremeLegal.two_le (h : ExtremeLegal z e) : 2 ≤ ((e.toNat : Int) - z.toNat).natAbs := by
  rw [ExtremeLegal, ← Int.natCast_natAbs] at h
  exact_mod_cast h

/-- One step from the centre toward the extreme (42_encoder.md R142). -/
theorem calMin_toNat (h : e ≠ z) : ((calMin z e).toNat : Int) = z.toNat + if z < e then 1 else -1 := by
  unfold calMin
  split <;> bv_omega

/-- `RANGE`, the number of steps from MIN to the extreme (42_encoder.md R142). -/
def directionRange (z e : Byte) : Nat := absDiff e.toNat (calMin z e).toNat

theorem directionRange_add_one (h : e ≠ z) : directionRange z e + 1 = ((e.toNat : Int) - z.toNat).natAbs := by
  have hmin := calMin_toNat h
  rw [directionRange, absDiff_eq_natAbs]
  split at hmin <;> bv_omega

theorem directionRange_bounds (h : ExtremeLegal z e) :
    1 ≤ directionRange z e ∧ directionRange z e ≤ 254 := by
  have hrange := directionRange_add_one h.ne
  have htwo := h.two_le
  omega

theorem calRecord_scale (h : ExtremeLegal z e) : (calRecord z e).scale = fl32 254 (directionRange z e) := by
  obtain ⟨-, hle⟩ := directionRange_bounds h
  exact f32Div_f32OfNat (a := 254) (b := directionRange z e) (by omega) (by omega)

theorem calRecord_range (h : ExtremeLegal z e) : (calRecord z e).range.toNat = directionRange z e := by
  obtain ⟨-, hle⟩ := directionRange_bounds h
  exact Nat.mod_eq_of_lt (a := directionRange z e) (by omega)

/-- Both errors of `cal` are conditions that a legal extreme meets. -/
theorem cal_eq_ok (h : ExtremeLegal z e) : cal z e = .ok (calRecord z e) := by
  obtain ⟨hpos, -⟩ := directionRange_bounds h
  have hrange : absDiff e.toNat (calMin z e).toNat ≠ 0 := Nat.one_le_iff_ne_zero.mp hpos
  rw [cal, if_neg h.ne, if_neg hrange]

/-- The record of 42_encoder.md R142, field by field. -/
theorem calRecord_spec (h : ExtremeLegal z e) :
    (calRecord z e).max = e ∧
    ((calRecord z e).min.toNat : Int) = z.toNat + (if z < e then 1 else -1) ∧
    ((calRecord z e).range.toNat : Int) = |(e.toNat : Int) - (calRecord z e).min.toNat| ∧
    1 ≤ (calRecord z e).range.toNat ∧ (calRecord z e).range.toNat ≤ 254 ∧
    (calRecord z e).scale = fl32 254 (calRecord z e).range.toNat := by
  obtain ⟨hpos, hle⟩ := directionRange_bounds h
  rw [calRecord_range h]
  exact ⟨rfl, calMin_toNat h.ne, natCast_absDiff _ _, hpos, hle, calRecord_scale h⟩

end

/-! ### The calibration file -/

/-- The four records of 42_encoder.md R142. -/
def calibratedFile (p : Params) : CalFile :=
  { xNeg := calRecord p.x.zero p.x.negExt
    xPos := calRecord p.x.zero p.x.posExt
    yNeg := calRecord p.y.zero p.y.negExt
    yPos := calRecord p.y.zero p.y.posExt }

theorem calibrate_legal {p : Params} (h : checkCalibration p = none) :
    calibrate p = .ok (calibratedFile p) := by
  obtain ⟨hx, hy⟩ := (checkCalibration_eq_none_iff p).mp h
  simp only [calibrate, h, calibrateRecords, cal_eq_ok hx.posExt, cal_eq_ok hx.negExt,
    cal_eq_ok hy.posExt, cal_eq_ok hy.negExt]
  rfl

theorem resetCal_legal {p : Params} (h : checkCalibration p = none) : resetCal p = calibratedFile p := by
  rw [resetCal, calibrate_legal h]

theorem calibrate_eq_ok_iff (p : Params) : (∃ c, calibrate p = .ok c) ↔ checkCalibration p = none := by
  refine ⟨fun ⟨c, hc⟩ => ?_, fun h => ⟨_, calibrate_legal h⟩⟩
  cases hcheck : checkCalibration p with
  | none => rfl
  | some r => simp [calibrate, hcheck] at hc

/-- Settles O16: a legal axis has two legal extremes, and each gives its record. -/
theorem calibrationRecordsOfALegalConfiguration : Obligations.CalibrationRecordsOfALegalConfiguration := by
  intro p h
  obtain ⟨hx, hy⟩ := (checkCalibration_eq_none_iff p).mp h
  refine ⟨calibratedFile p, calibrate_legal h, ?_⟩
  simp only [List.forall_mem_cons, List.not_mem_nil, false_imp_iff, implies_true, and_true]
  exact ⟨calRecord_spec hx.posExt, calRecord_spec hx.negExt,
    calRecord_spec hy.posExt, calRecord_spec hy.negExt⟩

/-! ### RESET of a remote -/

section
variable {s : State}

theorem execReset_remote_next (hremote : s.params.role = .remote) :
    (∃ t, exec .reset s = .next t) ↔ checkCalibration s.params = none := by
  rw [← calibrate_eq_ok_iff]
  change (∃ t, execReset s = .next t) ↔ _
  simp only [execReset_next, hremote, forall_const, exists_and_left, exists_eq, and_true]

theorem execReset_remote_error (hremote : s.params.role = .remote) {r : ConfigReason}
    (hc : calibrate s.params = .error r) : exec .reset s = .fault (.configError r) := by
  change execReset s = _
  simp only [execReset, hremote, hc, raiseConfigError]

end

/-- Settles O14: RESET, the calibration and the build all depend on R141's check alone. -/
theorem configurationIsRefusedExactlyWhenIllegal :
    Obligations.ConfigurationIsRefusedExactlyWhenIllegal := by
  intro s hremote
  refine ⟨?legal, ?total, ?built⟩
  case legal =>
    rw [execReset_remote_next hremote, checkCalibration_eq_none_iff]
    simp only [List.forall_mem_cons, List.not_mem_nil, false_imp_iff, implies_true, and_true]
    rfl
  case total =>
    cases hc : calibrate s.params with
    | ok c => exact .inl ((execReset_remote_next hremote).mpr ((calibrate_eq_ok_iff _).mp ⟨c, hc⟩))
    | error r => exact .inr ⟨r, execReset_remote_error hremote hc⟩
  case built =>
    rw [execReset_remote_next hremote]
    simp only [State.build_ok, configRefusal_eq_none_iff, hremote, forall_const, exists_and_left,
      exists_eq, and_true]

end Sys2Proof.Machine
end

section
/-!
PROOFS. The axis mapping (42_encoder.md R144, R145, R148). Its value reaches a whole number `m + 1` exactly when the
exact one does, because one step of a fraction over RANGE is far more than the three roundings move it. Only a tie,
`254 * d = m * RANGE`, is left to the rounding of the scale.
-/
namespace Sys2Proof.Machine

/-- `OUT_MIN ⊕ (scale ⊗ d)` for a distance `d` from MIN (42_encoder.md R144). -/
def scaledValue (scale : F32) (d : Nat) : F32 := f32Add (f32OfNat Config.outMin) (f32Mul scale (f32OfNat d))

theorem mappedValue_eq (c : CalRecord) (v : Byte) :
    mappedValue c v = scaledValue c.scale (absDiff v.toNat c.min.toNat) := rfl

section
variable {scale : F32} {rg d m : Nat}

theorem scaledValue_eq (hd : d ≤ 255) :
    scaledValue scale d = f32OfUnits (f32One + f32Units (f32OfUnits (f32Units scale * d) 1)) 1 := by
  rw [scaledValue, f32Mul_f32OfNat scale (by omega), f32Add, Config.outMin, f32Units_f32OfNat (by omega),
    Nat.one_mul]

/-! ### From the product to the value -/

theorem lt_f32Trunc_scaledValue (hm : m ≤ 255) (hd : d ≤ 255) (hscale : f32Units scale ≤ 256 * f32One)
    (h : m * f32One ≤ f32Units scale * d) : m < f32Trunc (scaledValue scale d) := by
  have hproduct : f32Units scale * d ≤ 65536 * f32One :=
    (Nat.mul_le_mul hscale hd).trans (by unfold f32One; omega)
  have hhigh : f32Units (f32OfUnits (f32Units scale * d) 1) ≤ 65536 * f32One :=
    f32Units_f32OfUnits_le Nat.one_pos (by omega) (by omega) (by rwa [Nat.mul_one])
  have hlow : m * f32One ≤ f32Units (f32OfUnits (f32Units scale * d) 1) :=
    le_f32Units_f32OfUnits Nat.one_pos (by omega) (by omega) (by rwa [Nat.mul_one])
      (by unfold f32One at hproduct; omega)
  refine (le_f32Trunc_iff (m + 1) _).mpr ?_
  rw [scaledValue_eq hd]
  exact le_f32Units_f32OfUnits Nat.one_pos (by omega) (by omega)
    (by unfold f32One at hlow ⊢; omega) (by unfold f32One at hhigh ⊢; omega)

/-- `2 ^ 139` units are `2 ^ (-10)`, a step that a binary32 value below 256 has. -/
theorem f32Trunc_scaledValue_le (hm : m ≤ 255) (hd : d ≤ 255)
    (h : f32Units scale * d + 2 ^ 139 ≤ m * f32One) : f32Trunc (scaledValue scale d) ≤ m := by
  have hgap : f32Units (f32OfUnits (f32Units scale * d) 1) ≤ (m * 1024 - 1) * 2 ^ 139 :=
    f32Units_f32OfUnits_le Nat.one_pos (by omega) (by omega) (by unfold f32One at h; omega)
  have hvalue : f32Units (scaledValue scale d) ≤ ((m + 1) * 1024 - 1) * 2 ^ 139 := by
    rw [scaledValue_eq hd]
    exact f32Units_f32OfUnits_le Nat.one_pos (by omega) (by omega) (by unfold f32One at h ⊢; omega)
  by_contra hlt
  have hreach := (le_f32Trunc_iff (m + 1) _).mp (not_le.mp hlt)
  unfold f32One at hreach
  omega

/-! ### From the scale to the product -/

theorem f32Units_fl32_scale_le (hrg : 1 ≤ rg) : f32Units (fl32 254 rg) ≤ 256 * f32One :=
  f32Units_f32OfUnits_le hrg (by omega) (by omega)
    ((Nat.mul_le_mul_right f32One (by omega : 254 ≤ 256)).trans (Nat.le_mul_of_pos_right _ hrg))

/-- Scales are below 256, where the error is at most half of `2 ^ 133` units. -/
theorem f32Units_fl32_scale_error (hrg : 1 ≤ rg) :
    2 * (254 * f32One) ≤ 2 * (f32Units (fl32 254 rg) * rg) + rg * 2 ^ 133 ∧
    2 * (f32Units (fl32 254 rg) * rg) ≤ 2 * (254 * f32One) + rg * 2 ^ 133 :=
  f32OfUnits_error hrg (by omega) ((by unfold f32One; omega : 254 * f32One < 2 ^ (24 + 133)).trans_le
    (Nat.le_mul_of_pos_right _ hrg))

/-- The scale's error at the distance `d`, over the common denominator RANGE. -/
theorem product_error (hrg : 1 ≤ rg) (hrg' : rg ≤ 254) (hd : d ≤ 255) :
    254 * d * f32One ≤ f32Units (fl32 254 rg) * d * rg + 2 ^ 148 ∧
    f32Units (fl32 254 rg) * d * rg ≤ 254 * d * f32One + 2 ^ 148 := by
  obtain ⟨hlow, hhigh⟩ := f32Units_fl32_scale_error hrg
  have hsmall : rg * d ≤ 254 * 255 := Nat.mul_le_mul hrg' hd
  have hlow' := Nat.mul_le_mul_right d hlow
  have hhigh' := Nat.mul_le_mul_right d hhigh
  have hproduct : f32Units (fl32 254 rg) * d * rg = f32Units (fl32 254 rg) * rg * d := Nat.mul_right_comm _ _ _
  have herror : rg * 2 ^ 133 * d = rg * d * 2 ^ 133 := Nat.mul_right_comm _ _ _
  have hexact : 254 * d * f32One = 254 * f32One * d := Nat.mul_right_comm _ _ _
  rw [Nat.add_mul, herror, Nat.mul_assoc 2, Nat.mul_assoc 2] at hlow' hhigh'
  rw [hproduct, hexact]
  omega

/-! ### The whole numbers that the value reaches -/

theorem lt_f32Trunc_of_lt (hrg : 1 ≤ rg) (hrg' : rg ≤ 254) (hm : m ≤ 255) (hd : d ≤ 255)
    (h : m * rg < 254 * d) : m < f32Trunc (scaledValue (fl32 254 rg) d) := by
  refine lt_f32Trunc_scaledValue hm hd (f32Units_fl32_scale_le hrg) (Nat.le_of_mul_le_mul_right ?_ hrg)
  obtain ⟨hlow, -⟩ := product_error hrg hrg' hd
  have hstep : (m * rg + 1) * f32One ≤ 254 * d * f32One := Nat.mul_le_mul_right f32One h
  have herror : 2 ^ 148 ≤ f32One := Nat.pow_le_pow_right (by omega) (by omega)
  rw [Nat.succ_mul] at hstep
  rw [Nat.mul_right_comm m]
  omega

theorem f32Trunc_le_of_lt (hrg : 1 ≤ rg) (hrg' : rg ≤ 254) (hm : m ≤ 255) (hd : d ≤ 255)
    (h : 254 * d < m * rg) : f32Trunc (scaledValue (fl32 254 rg) d) ≤ m := by
  refine f32Trunc_scaledValue_le hm hd (Nat.le_of_mul_le_mul_right ?_ hrg)
  obtain ⟨-, hhigh⟩ := product_error hrg hrg' hd
  have hstep : (254 * d + 1) * f32One ≤ m * rg * f32One := Nat.mul_le_mul_right f32One h
  have herror : 2 ^ 148 + rg * 2 ^ 139 ≤ f32One := by unfold f32One; omega
  rw [Nat.succ_mul] at hstep
  rw [Nat.mul_right_comm m, Nat.add_mul, Nat.mul_comm (2 ^ 139)]
  omega

/-! ### The ties -/

/-- A tie at a value of `q4` is at RANGE 254 or at half the RANGE: 127 divides `m` or RANGE. -/
theorem tie_cases (hrg : 1 ≤ rg) (hrg' : rg ≤ 254) (hm : m % 4 = 3) (hm' : m ≤ 251)
    (htie : m * rg = 254 * d) : rg = 254 ∧ m = d ∨ 2 * d = rg := by
  have hprime : Nat.Prime 127 := by norm_num
  have hdvd : 127 ∣ m * rg := ⟨2 * d, by omega⟩
  rcases hprime.dvd_mul.mp hdvd with ⟨j, rfl⟩ | ⟨j, rfl⟩
  · obtain rfl : j = 1 := by omega
    omega
  · obtain rfl | rfl : j = 1 ∨ j = 2 := by omega
    · omega
    · omega

/-- At RANGE 254 the scale is one, and the mapping is exact. -/
theorem lt_f32Trunc_of_unit_scale (hd : d ≤ 255) : d < f32Trunc (scaledValue (fl32 254 254) d) := by
  have hone : f32Units (fl32 254 254) = f32One := by decide +kernel
  refine lt_f32Trunc_scaledValue hd hd (hone.trans_le (Nat.le_mul_of_pos_left _ (by omega))) ?_
  rw [hone, Nat.mul_comm]

/-- Off the ties at half the RANGE, binary32 and exact arithmetic reach the same multiples of 4. -/
theorem lt_f32Trunc_iff (hrg : 1 ≤ rg) (hrg' : rg ≤ 254) (hd : d ≤ 255) (hhalf : 2 * d ≠ rg)
    (hm : m % 4 = 3) (hm' : m ≤ 251) :
    m + 1 ≤ f32Trunc (scaledValue (fl32 254 rg) d) ↔ m + 1 ≤ (rg + 254 * d) / rg := by
  have hexact : m + 1 ≤ (rg + 254 * d) / rg ↔ m * rg ≤ 254 * d := by
    rw [Nat.le_div_iff_mul_le hrg, Nat.succ_mul]
    omega
  rw [hexact]
  rcases Nat.lt_trichotomy (m * rg) (254 * d) with hlt | htie | hgt
  · exact iff_of_true (lt_f32Trunc_of_lt hrg hrg' (by omega) hd hlt) hlt.le
  · obtain ⟨rfl, rfl⟩ := (tie_cases hrg hrg' hm hm' htie).resolve_right hhalf
    exact iff_of_true (lt_f32Trunc_of_unit_scale hd) htie.le
  · have hle := f32Trunc_le_of_lt hrg hrg' (by omega) hd hgt
    omega

/-- The ties at half the RANGE, one by one. -/
theorem half_range_differs : ∀ d < 128, 1 ≤ d →
    (q4 (sat8 (f32Trunc (scaledValue (fl32 254 (2 * d)) d))) ≠ q4 (sat8 ((2 * d + 254 * d) / (2 * d))) ↔
      2 * d ∈ [30, 38, 58, 60, 76, 102, 116, 120, 122, 152, 190, 204, 232, 240, 244]) := by
  decide +kernel

end

/-- Settles O21: apart from the ties at half the RANGE the two values reach the same multiples of 4. -/
theorem binaryAndExactMapxDifferAtFifteenPairs : Obligations.BinaryAndExactMapxDifferAtFifteenPairs := by
  intro rg d hrg hrg' hd
  rw [f32Div_f32OfNat (by omega) (by omega)]
  change q4 (sat8 (f32Trunc (scaledValue (fl32 254 rg) d))) ≠ _ ↔ _
  by_cases hhalf : 2 * d = rg
  case pos =>
    subst hhalf
    rw [half_range_differs d (by omega) (by omega)]
    exact (and_iff_right rfl).symm
  case neg =>
    have hsame := q4_sat8_eq fun m hm hm' => lt_f32Trunc_iff hrg hrg' hd hhalf hm hm'
    exact iff_of_false (not_not_intro hsame) fun ⟨heq, _⟩ => hhalf heq

/-! ### The extreme samples -/

section
variable {rg : Nat}

/-- At the extreme the distance is RANGE itself: the value lies between 252 and 256. -/
theorem f32Trunc_scaledValue_range (hrg : 1 ≤ rg) (hrg' : rg ≤ 254) :
    252 ≤ f32Trunc (scaledValue (fl32 254 rg) rg) ∧ f32Trunc (scaledValue (fl32 254 rg) rg) ≤ 255 :=
  ⟨lt_f32Trunc_of_lt hrg hrg' (by omega) (by omega) (by omega),
    f32Trunc_le_of_lt hrg hrg' (by omega) (by omega) (by omega)⟩

theorem f32Trunc_throttled_range (hrg : 1 ≤ rg) (hrg' : rg ≤ 254) :
    176 ≤ f32Trunc (f32Mul (scaledValue (fl32 254 rg) rg) Config.throttleK) ∧
    f32Trunc (f32Mul (scaledValue (fl32 254 rg) rg) Config.throttleK) ≤ 179 := by
  obtain ⟨hlow, hhigh⟩ := f32Trunc_scaledValue_range hrg hrg'
  have hfrom : f32Units (f32OfNat 252) ≤ f32Units (scaledValue (fl32 254 rg) rg) := by
    rw [f32Units_f32OfNat (by omega)]
    exact (le_f32Trunc_iff 252 _).mp hlow
  have hto : f32Units (scaledValue (fl32 254 rg) rg) ≤ f32Units (f32OfNat 256) := by
    rw [f32Units_f32OfNat (by omega)]
    exact (not_le.mp (mt (le_f32Trunc_iff 256 _).mpr (by omega))).le
  have hfin : f32Units (f32OfNat 256) * f32Units Config.throttleK < (2 ^ 25 - 1) * 2 ^ 252 * f32One := by
    decide +kernel
  have htrunc252 : f32Trunc (f32Mul (f32OfNat 252) Config.throttleK) = 176 := by decide +kernel
  have htrunc256 : f32Trunc (f32Mul (f32OfNat 256) Config.throttleK) = 179 := by decide +kernel
  exact ⟨htrunc252.ge.trans (f32Trunc_mono (f32Units_f32Mul_mono hfrom
      ((Nat.mul_le_mul_right _ hto).trans_lt hfin))),
    (f32Trunc_mono (f32Units_f32Mul_mono hto hfin)).trans htrunc256.le⟩

end

section
variable {z e : Byte}

theorem mappedValue_calRecord (h : ExtremeLegal z e) (v : Byte) : mappedValue (calRecord z e) v =
    scaledValue (fl32 254 (directionRange z e)) (absDiff v.toNat (calMin z e).toNat) := by
  rw [mappedValue_eq, calRecord_scale h]
  rfl

theorem mapXRecord_extreme (h : ExtremeLegal z e) : mapXRecord (calRecord z e) e = 252 := by
  obtain ⟨hpos, hle⟩ := directionRange_bounds h
  obtain ⟨hlow, hhigh⟩ := f32Trunc_scaledValue_range hpos hle
  refine BitVec.eq_of_toNat_eq ?_
  rw [mapXRecord, q4_sat8_toNat, mappedValue_calRecord h]
  change min (f32Trunc (scaledValue _ (directionRange z e))) 255 / 4 * 4 = 252
  omega

theorem mapYRecord_extreme (h : ExtremeLegal z e) : mapYRecord (calRecord z e) e = 176 := by
  obtain ⟨hpos, hle⟩ := directionRange_bounds h
  obtain ⟨hlow, hhigh⟩ := f32Trunc_throttled_range hpos hle
  refine BitVec.eq_of_toNat_eq ?_
  rw [mapYRecord, q4_sat8_toNat, mappedValue_calRecord h]
  change min (f32Trunc (f32Mul (scaledValue _ (directionRange z e)) _)) 255 / 4 * 4 = 176
  omega

end

/-- Settles O20: the formulas are the model's own, and at an extreme the distance is the RANGE. -/
theorem extremeSampleMapsTo252And176 : Obligations.ExtremeSampleMapsTo252And176 := by
  refine ⟨fun c v f hf => ?formula, fun p c v => ?bySide,
    fun z e h => ⟨mapXRecord_extreme h, mapYRecord_extreme h⟩⟩
  case formula =>
    rw [← absDiff_eq_natAbs] at hf
    subst hf
    exact ⟨rfl, rfl⟩
  case bySide =>
    refine ⟨fun h => ?_, fun h => ?_, fun h => ?_, fun h => ?_, fun h => ?_, fun h => ?_⟩ <;>
      simp only [mapX, mapY, h]

/-- Settles O26: the sample 0 of the example is the positive extreme. -/
theorem workedExampleGives252 : Obligations.WorkedExampleGives252 := by
  refine ⟨by decide +kernel, by decide +kernel, by decide +kernel, fun p hx hlegal => ?_⟩
  have hside : sideX p 0 = .pos := by
    rw [sideX, hx]
    decide
  have hrecord : (resetCal p).xPos = calRecord 133 0 := by
    rw [resetCal_legal hlegal, calibratedFile, hx]
  refine ⟨hside, ?_⟩
  rw [mapX, hside, hrecord]
  exact mapXRecord_extreme (by unfold ExtremeLegal; decide)

end Sys2Proof.Machine
end

section
/-!
PROOFS. The sides of a sample and the steering blend (42_encoder.md R143, R146, R147), and what mirroring an axis about
its centre leaves unchanged (R152).
-/
namespace Sys2Proof.Machine

/-! ### The sides -/

theorem sameSign_iff (v z e : Byte) :
    sameSign v z e = true ↔ ((v.toNat : Int) - z.toNat).sign = ((e.toNat : Int) - z.toNat).sign :=
  beq_iff_eq

section
variable (p : Params) (v : Byte)

theorem sideX_eq_centre_iff : sideX p v = .centre ↔ v = p.x.zero := by
  unfold sideX
  split
  case isTrue h => exact iff_of_true rfl h
  case isFalse h => split <;> simp [h]

theorem sideX_eq_pos_iff :
    sideX p v = .pos ↔ v ≠ p.x.zero ∧ sameSign v p.x.zero p.x.posExt = true := by
  unfold sideX
  split
  case isTrue h => simp [h]
  case isFalse h => split <;> simp [*]

theorem sideY_eq_centre_iff :
    sideY p v = .centre ↔ |(v.toNat : Int) - p.y.zero.toNat| ≤ p.yZeroOffset.toNat := by
  rw [← natCast_absDiff, Int.ofNat_le]
  unfold sideY
  split
  case isTrue h => exact iff_of_true rfl h
  case isFalse h => split <;> simp [h]

theorem sideY_eq_pos_iff : sideY p v = .pos ↔
    ¬ |(v.toNat : Int) - p.y.zero.toNat| ≤ p.yZeroOffset.toNat ∧
      sameSign v p.y.zero p.y.posExt = true := by
  rw [← natCast_absDiff, Int.ofNat_le]
  unfold sideY
  split
  case isTrue h => simp [h]
  case isFalse h => split <;> simp [*]

end

/-- Settles O17: each side is told by its own condition. -/
theorem sidesOfASample : Obligations.SidesOfASample := by
  intro p v
  simp only [← sameSign_iff]
  exact ⟨sideX_eq_centre_iff p v, sideX_eq_pos_iff p v, sideY_eq_centre_iff p v, sideY_eq_pos_iff p v⟩

/-! ### The steering reduction -/

theorem steerReduction_toNat_le {mx : Byte} (h : mx.toNat ≤ 252) : (steerReduction mx).toNat ≤ 72 := by
  have hfin : f32Units (f32OfNat 252) * f32Units Config.steerK < (2 ^ 25 - 1) * 2 ^ 252 * f32One := by
    decide +kernel
  have htop : f32Trunc (f32Mul (f32OfNat 252) Config.steerK) = 75 := by decide +kernel
  have hle : f32Trunc (f32Mul (f32OfNat mx.toNat) Config.steerK) ≤ 75 :=
    (f32Trunc_mono (f32Units_f32Mul_mono (f32Units_f32OfNat_mono h (by omega)) hfin)).trans htop.le
  rw [steerReduction, q4_toNat]
  omega

/-! ### The blend -/

section
variable {p : Params} {c : CalFile} {x y : Byte} {m : Motor}

theorem reduces_iff (m : Motor) (sx : Side) :
    reduces m sx = true ↔ (m = .left ∧ sx = .neg) ∨ (m = .right ∧ sx = .pos) := by
  cases m <;> cases sx <;> decide

theorem blend_neutral (h : sideY p y = .centre) : blend p c x y m = 0 := if_pos h

theorem blend_reduced (hy : sideY p y ≠ .centre) (hr : reduces m (sideX p x) = true) :
    blend p c x y m = BitVec.ofNat 8 ((mapY p c y).toNat - (steerReduction (mapX p c x)).toNat) := by
  rw [blend, if_neg hy, if_pos hr]

theorem blend_reduced_toNat (hy : sideY p y ≠ .centre) (hr : reduces m (sideX p x) = true) :
    (blend p c x y m).toNat = (mapY p c y).toNat - (steerReduction (mapX p c x)).toNat := by
  rw [blend_reduced hy hr, BitVec.toNat_ofNat]
  omega

theorem blend_unreduced (hy : sideY p y ≠ .centre) (hr : ¬ reduces m (sideX p x) = true) :
    blend p c x y m = mapY p c y := by
  rw [blend, if_neg hy, if_neg hr]

/-- The blend depends on the two sides and the two mapped values. -/
theorem blend_congr {p' : Params} {c' : CalFile} {x' y' : Byte} (hsx : sideX p' x' = sideX p x)
    (hsy : sideY p' y' = sideY p y) (hmx : mapX p' c' x' = mapX p c x) (hmy : mapY p' c' y' = mapY p c y)
    (m : Motor) : blend p' c' x' y' m = blend p c x y m := by
  simp only [blend, hsx, hsy, hmx, hmy]

end

/-- Settles O18: the blend's three branches, and the reduction below its value at 252. -/
theorem blendReducesTheMotorOnTheStickSide : Obligations.BlendReducesTheMotorOnTheStickSide := by
  refine ⟨fun mx h => ⟨rfl, steerReduction_toNat_le h⟩, by decide +kernel, fun p c x y m => ?_⟩
  simp only [← reduces_iff]
  refine ⟨blend_neutral, fun hy hr => ?reduced, blend_unreduced⟩
  case reduced =>
    rw [blend_reduced_toNat hy hr]
    omega

/-! ### The quantised magnitude -/

theorem q4_toNat_mod_four (n : Nat) : (q4 n).toNat % 4 = 0 := by
  rw [q4_toNat]
  exact Nat.mul_mod_left _ 4

theorem mapY_quantised (p : Params) (c : CalFile) (y : Byte) :
    (mapY p c y).toNat % 4 = 0 ∧ (mapY p c y).toNat ≤ 252 := by
  unfold mapY
  split
  case h_1 => exact ⟨rfl, Nat.zero_le _⟩
  case h_2 | h_3 => exact ⟨q4_toNat_mod_four _, q4_le _⟩

/-- Settles O19: the mapped value and its reduction are multiples of 4, and so is their difference. -/
theorem magnitudeIsAMultipleOfFourUpTo252 : Obligations.MagnitudeIsAMultipleOfFourUpTo252 := by
  intro p c x y m
  have hy := mapY_quantised p c y
  by_cases hneutral : sideY p y = .centre
  case pos =>
    rw [blend_neutral hneutral]
    decide
  case neg =>
    by_cases hr : reduces m (sideX p x) = true
    case pos =>
      have hsteer : (steerReduction (mapX p c x)).toNat % 4 = 0 := q4_toNat_mod_four _
      rw [blend_reduced_toNat hneutral hr]
      omega
    case neg =>
      rw [blend_unreduced hneutral hr]
      exact hy

/-! ### Mirroring a sample and an extreme -/

/-- `w` is the mirror image of `v` about the centre `z` (42_encoder.md R152). -/
def MirrorImage (z v w : Byte) : Prop := (w.toNat : Int) = 2 * z.toNat - v.toNat

section
variable {z e e' v w : Byte}

theorem MirrorImage.sub_eq (h : MirrorImage z v w) :
    (w.toNat : Int) - z.toNat = -((v.toNat : Int) - z.toNat) := by
  unfold MirrorImage at h
  omega

theorem MirrorImage.eq_centre_iff (h : MirrorImage z v w) : w = z ↔ v = z := by
  unfold MirrorImage at h
  bv_omega

theorem MirrorImage.absDiff_eq (h : MirrorImage z v w) : absDiff w.toNat z.toNat = absDiff v.toNat z.toNat := by
  rw [absDiff_eq_natAbs, absDiff_eq_natAbs, h.sub_eq, Int.natAbs_neg]

theorem MirrorImage.sameSign_eq (hv : MirrorImage z v w) (he : MirrorImage z e e') :
    sameSign w z e' = sameSign v z e := by
  simp only [sameSign, hv.sub_eq, he.sub_eq, Int.sign_neg, Bool.beq_eq_decide_eq, neg_inj]

theorem MirrorImage.extremeLegal (he : MirrorImage z e e') (h : ExtremeLegal z e) : ExtremeLegal z e' := by
  rwa [ExtremeLegal, he.sub_eq, abs_neg]

/-- MIN is mirrored with its extreme. -/
theorem MirrorImage.calMin_mirror (he : MirrorImage z e e') (hne : e ≠ z) :
    MirrorImage z (calMin z e) (calMin z e') := by
  have hmin := calMin_toNat hne
  have hmin' := calMin_toNat (mt he.eq_centre_iff.mp hne)
  unfold MirrorImage at he ⊢
  split at hmin <;> split at hmin' <;> bv_omega

/-- Distances between mirrored samples are kept. -/
theorem MirrorImage.absDiff_pair {a a' b b' : Byte} (ha : MirrorImage z a a') (hb : MirrorImage z b b') :
    absDiff a'.toNat b'.toNat = absDiff a.toNat b.toNat := by
  unfold MirrorImage at ha hb
  rw [absDiff_eq_natAbs, absDiff_eq_natAbs]
  omega

theorem mappedValue_mirror (h : ExtremeLegal z e) (he : MirrorImage z e e') (hv : MirrorImage z v w) :
    mappedValue (calRecord z e') w = mappedValue (calRecord z e) v := by
  have hmin := he.calMin_mirror h.ne
  rw [mappedValue_calRecord (he.extremeLegal h), mappedValue_calRecord h, directionRange, directionRange,
    he.absDiff_pair hmin, hv.absDiff_pair hmin]

end

/-! ### Mirroring an axis -/

/-- `b` is the axis `a` mirrored about its centre (42_encoder.md R152). -/
structure MirrorAxis (a b : AxisParams) : Prop where
  zero : b.zero = a.zero
  posExt : MirrorImage a.zero a.posExt b.posExt
  negExt : MirrorImage a.zero a.negExt b.negExt

theorem MirrorAxis.axisLegal {a b : AxisParams} (h : MirrorAxis a b) (ha : AxisLegal a) : AxisLegal b := by
  obtain ⟨hpos, hneg, hpos2, hneg2, hside⟩ := ha
  refine ⟨?_, ?_, ?_, ?_, ?_⟩ <;> rw [h.zero]
  · exact mt h.posExt.eq_centre_iff.mp hpos
  · exact mt h.negExt.eq_centre_iff.mp hneg
  · exact h.posExt.extremeLegal hpos2
  · exact h.negExt.extremeLegal hneg2
  · rwa [h.posExt.sub_eq, h.negExt.sub_eq, neg_mul_neg]

section
variable {p : Params} {a : AxisParams} {v w : Byte}

theorem sideX_mirror (h : MirrorAxis p.x a) (hv : MirrorImage p.x.zero v w) :
    sideX { p with x := a } w = sideX p v := by
  simp only [sideX, h.zero, hv.eq_centre_iff, hv.sameSign_eq h.posExt]

theorem sideY_mirror (h : MirrorAxis p.y a) (hv : MirrorImage p.y.zero v w) :
    sideY { p with y := a } w = sideY p v := by
  simp only [sideY, h.zero, hv.absDiff_eq, hv.sameSign_eq h.posExt]

theorem mapX_mirror (h : MirrorAxis p.x a) (hlegal : AxisLegal p.x) (hv : MirrorImage p.x.zero v w) :
    mapX { p with x := a } (calibratedFile { p with x := a }) w = mapX p (calibratedFile p) v := by
  simp only [mapX, sideX_mirror h hv, mapXRecord, calibratedFile, h.zero,
    mappedValue_mirror hlegal.posExt h.posExt hv, mappedValue_mirror hlegal.negExt h.negExt hv]

theorem mapY_mirror (h : MirrorAxis p.y a) (hlegal : AxisLegal p.y) (hv : MirrorImage p.y.zero v w) :
    mapY { p with y := a } (calibratedFile { p with y := a }) w = mapY p (calibratedFile p) v := by
  simp only [mapY, sideY_mirror h hv, mapYRecord, calibratedFile, h.zero,
    mappedValue_mirror hlegal.posExt h.posExt hv, mappedValue_mirror hlegal.negExt h.negExt hv]

end

/-- Settles O25: sides and distances from MIN are kept by the mirror, and the other axis is not touched. -/
theorem mirroringAnAxisKeepsTheMagnitude : Obligations.MirroringAnAxisKeepsTheMagnitude := by
  intro p a v w u m hlegal
  obtain ⟨hx, hy⟩ := (checkCalibration_eq_none_iff p).mp hlegal
  refine ⟨fun ⟨hzero, hpos, hneg, hv⟩ => ?onX, fun ⟨hzero, hpos, hneg, hv⟩ => ?onY⟩
  case onX =>
    have h : MirrorAxis p.x a := ⟨hzero, hpos, hneg⟩
    have hlegal' : checkCalibration { p with x := a } = none :=
      (checkCalibration_eq_none_iff _).mpr ⟨h.axisLegal hx, hy⟩
    rw [resetCal_legal hlegal, resetCal_legal hlegal']
    have hside := sideX_mirror h hv
    refine ⟨hside, blend_congr hside ?_ (mapX_mirror h hx hv) ?_ m⟩ <;> rfl
  case onY =>
    have h : MirrorAxis p.y a := ⟨hzero, hpos, hneg⟩
    have hlegal' : checkCalibration { p with y := a } = none :=
      (checkCalibration_eq_none_iff _).mpr ⟨hx, h.axisLegal hy⟩
    rw [resetCal_legal hlegal, resetCal_legal hlegal']
    have hside := sideY_mirror h hv
    refine ⟨hside, blend_congr ?_ hside ?_ (mapY_mirror h hy hv) m⟩ <;> rfl

end Sys2Proof.Machine
end

section
/-!
PROOFS. The commands ENCODE and SEND_DRIVE (42_encoder.md R150, R151).
-/
namespace Sys2Proof.Machine

section
variable {s : State}

theorem exec_encodeStick (hremote : s.params.role = .remote) (hheld : s.held = false) (mm : MotorSel) :
    exec (.encodeStick mm) s = .next (encodeEffect mm s) :=
  command_role_runs .remote s (encodeEffect mm) hremote hheld

theorem exec_sendDrive (hremote : s.params.role = .remote) (hheld : s.held = false) (mm : MotorSel) :
    exec (.sendDrive mm) s = .next (sendDriveEffect mm s) :=
  command_role_runs .remote s (sendDriveEffect mm) hremote hheld

theorem sendDriveEffect_latched (h : s.rfsm = .latched) (mm : MotorSel) :
    sendDriveEffect mm s = s.returnsNothing := by
  simp only [sendDriveEffect, h]

theorem sendDriveEffect_idle (h : s.rfsm = .idle) (mm : MotorSel) :
    sendDriveEffect mm s = (encodeEffect mm s).transmit (s.driveByte mm) := by
  simp only [sendDriveEffect, h]

end

theorem selectedMotor_eq (mm : MotorSel) :
    selectedMotor mm = if mm = .right then .right else .left := by
  cases mm <;> rfl

theorem nextDir_eq (p : Params) (y : Byte) (dir : Bool) : nextDir p y dir =
    if sideY p y = .pos then true else if sideY p y = .neg then false else dir := by
  unfold nextDir
  cases sideY p y <;> rfl

theorem motorBit_eq (m : Motor) : motorBit m = if m = .left then 1#8 else 0#8 := by
  cases m <;> rfl

/-- Settles O22: the effect's DIR and drive byte, by side and by motor. -/
theorem encodeReturnsTheDriveByteAndHoldsDirection :
    Obligations.EncodeReturnsTheDriveByteAndHoldsDirection := by
  refine ⟨fun mm => decodeInvertsEncode (.encodeStick mm) rfl, fun mm s hremote hheld m d hm hd => ?_⟩
  rw [← selectedMotor_eq] at hm
  rw [← nextDir_eq] at hd
  subst hm hd
  rw [exec_encodeStick hremote hheld, ← motorBit_eq]
  rfl

/-- A neutral Y packs the held direction and the motor alone. -/
theorem driveByte_neutral {s : State} (h : sideY s.params s.ports.opdY = .centre) (mm : MotorSel) :
    s.driveByte mm = packDrive 0 s.dir (selectedMotor mm) := by
  rw [State.driveByte, encodedByte, blend_neutral h, nextDir, h]

theorem byteResult_packDrive_zero (dir : Bool) (mm : MotorSel) :
    byteResult (packDrive 0 dir (selectedMotor mm)) =
      (if dir then 2#64 else 0#64) ||| (if mm = .right then 0#64 else 1#64) := by
  cases dir <;> cases mm <;> rfl

/-- Settles O23: the neutral side leaves DIR and gives magnitude 0. -/
theorem neutralYGivesMagnitudeZeroAndHoldsDirection :
    Obligations.NeutralYGivesMagnitudeZeroAndHoldsDirection := by
  intro mm s hremote hheld hband
  have hneutral := (sideY_eq_centre_iff s.params s.ports.opdY).mpr hband
  have hdir : s.encodedDir = s.dir := by rw [State.encodedDir, nextDir, hneutral]
  rw [exec_encodeStick hremote hheld, encodeEffect, hdir, driveByte_neutral hneutral,
    byteResult_packDrive_zero]

theorem truncate_byteResult (b : Byte) : (byteResult b).truncate 8 = b :=
  (BitVec.setWidth_setWidth_of_le b (by omega)).trans b.setWidth_eq

/-- Settles O24: an idle remote transmits the byte that ENCODE returns, a latched one nothing. -/
theorem sendDriveTransmitsUnlessLatched : Obligations.SendDriveTransmitsUnlessLatched := by
  refine ⟨fun mm => decodeInvertsEncode (.sendDrive mm) rfl, fun mm s hremote hheld => ?_⟩
  have hsend := exec_sendDrive hremote hheld mm
  refine ⟨fun hidle t ht => ?sends, fun _ => ⟨_, hsend⟩, fun hlatched => ?silent⟩
  case sends =>
    obtain rfl : encodeEffect mm s = t :=
      Host.Outcome.next.inj ((exec_encodeStick hremote hheld mm).symm.trans ht)
    rw [hsend, sendDriveEffect_idle hidle]
    exact congrArg Host.Outcome.next (congrArg (encodeEffect mm s).transmit (truncate_byteResult _).symm)
  case silent => exact ⟨_, _, hsend.trans (congrArg _ (sendDriveEffect_latched hlatched mm))⟩

end Sys2Proof.Machine
end

section
/-!
PROOFS. The effects of the link commands, case by case (43_link.md R181-R183, R185-R191).
-/
namespace Sys2Proof.Machine

section
variable {s : State}

/-! ### FAULT_EVAL -/

theorem faultEvalEffect_awaitingAck (hwait : s.hs = .awaitingAck) :
    faultEvalEffect s = s.returnsNothing := by
  simp only [faultEvalEffect, hwait]

/-- The distance falls below the limit: '2' (43_link.md R183). -/
theorem faultEvalEffect_obstacle (hrun : s.hs = .running) (hbelow : belowLimit s.params s.opdD = true)
    (hobs : s.obs = false) :
    faultEvalEffect s = ({ s with obs := true }.transmit msgObstacle).returnsNothing := by
  simp only [faultEvalEffect, hrun, hbelow, hobs, Bool.not_false, Bool.and_self, if_true]

/-- The distance is back at the limit or above it: '0' (43_link.md R183). -/
theorem faultEvalEffect_clear (hrun : s.hs = .running) (habove : belowLimit s.params s.opdD = false)
    (hobs : s.obs = true) :
    faultEvalEffect s = ({ s with obs := false }.transmit msgClear).returnsNothing := by
  simp [faultEvalEffect, hrun, habove, hobs]

/-- OBS already tells the condition: no message (43_link.md R183). -/
theorem faultEvalEffect_steady (hrun : s.hs = .running) (hsteady : belowLimit s.params s.opdD = s.obs) :
    faultEvalEffect s = s.returnsNothing := by
  cases hobs : s.obs <;> simp [faultEvalEffect, hrun, hsteady, hobs]

/-- Settles O27: the two edges, and the steady condition or the handshake. -/
theorem faultEvalSignalsOnlyTheEdges : Obligations.FaultEvalSignalsOnlyTheEdges := by
  refine ⟨decodeInvertsEncode .faultEval rfl, fun s hrole hheld => ?_⟩
  have hexec : exec .faultEval s = .next (faultEvalEffect s) :=
    command_role_runs .robot s faultEvalEffect hrole hheld
  refine ⟨fun hrun hbelow hobs => ?obstacle, fun hrun habove hobs => ?clear, fun hquiet => ?quiet⟩
  case obstacle =>
    exact ⟨_, _, hexec.trans (congrArg _ (faultEvalEffect_obstacle hrun (decide_eq_true hbelow) hobs))⟩
  case clear =>
    have hnot : ¬ s.opdD < s.params.distLimit.toNat := Nat.not_lt.mpr habove
    exact ⟨_, _, hexec.trans (congrArg _ (faultEvalEffect_clear hrun (decide_eq_false hnot) hobs))⟩
  case quiet =>
    have hnothing : faultEvalEffect s = s.returnsNothing := by
      cases hs : s.hs
      case awaitingAck => exact faultEvalEffect_awaitingAck hs
      case running =>
        have hiff := hquiet.resolve_left (by rw [hs]; exact nofun)
        exact faultEvalEffect_steady hs (Bool.eq_iff_iff.mpr (decide_eq_true_iff.trans hiff))
    exact ⟨_, _, hexec.trans (congrArg _ hnothing)⟩

/-! ### COLL_EVAL -/

theorem collEvalEffect_awaitingAck (hwait : s.hs = .awaitingAck) :
    collEvalEffect s = s.returnsNothing := by
  simp only [collEvalEffect, hwait]

theorem collEvalEffect_hit (hrun : s.hs = .running)
    (hhit : collides s.params s.opdAx s.opdAy s.opdAz = true) :
    collEvalEffect s = (enterHandshake s).returnsNothing := by
  simp only [collEvalEffect, hrun, hhit, if_true]

theorem collEvalEffect_noHit (hno : collides s.params s.opdAx s.opdAy s.opdAz = false) :
    collEvalEffect s = s.returnsNothing := by
  cases hs : s.hs <;> simp [collEvalEffect, hs, hno]

theorem deviates_iff (a off : Int) (thr : Nat) :
    deviates a off thr = true ↔ (thr : Int) < |a - off| := by
  rw [deviates, decide_eq_true_iff, Int.abs_eq_natAbs, Int.ofNat_lt]

/-- The collision predicate in exact integers (43_link.md R186). -/
theorem collides_iff (p : Params) (ax ay az : Int) :
    collides p ax ay az = true ↔
      (p.accThr.toNat : Int) < |ax - p.accOffX.toInt| ∨ (p.accThr.toNat : Int) < |ay - p.accOffY.toInt| ∨
      (p.accThr.toNat : Int) < |az - p.accOffZ.toInt| := by
  simp only [collides, Bool.or_eq_true, deviates_iff, or_assoc]

/-- Settles O28: the predicate decides between the entry into the handshake and no effect. -/
theorem collisionStopsTheMotorsAndOpensTheHandshake :
    Obligations.CollisionStopsTheMotorsAndOpensTheHandshake := by
  refine ⟨decodeInvertsEncode .collEval rfl, fun s hrole hheld hit hiff => ?_⟩
  have hexec : exec .collEval s = .next (collEvalEffect s) :=
    command_role_runs .robot s collEvalEffect hrole hheld
  have hcollides : collides s.params s.opdAx s.opdAy s.opdAz = true ↔ hit :=
    (collides_iff _ _ _ _).trans hiff.symm
  refine ⟨fun hrun hhit => ?collision, fun hquiet => ?quiet⟩
  case collision =>
    exact ⟨_, _, hexec.trans (congrArg _ (collEvalEffect_hit hrun (hcollides.mpr hhit)))⟩
  case quiet =>
    have hnothing : collEvalEffect s = s.returnsNothing :=
      hquiet.elim collEvalEffect_awaitingAck fun hno =>
        collEvalEffect_noHit (Bool.eq_false_iff.mpr fun hhit => hno (hcollides.mp hhit))
    exact ⟨_, _, hexec.trans (congrArg _ hnothing)⟩

/-! ### The receive polls -/

/-- Settles O29: the byte acts on the state that has taken it, by the phase. -/
theorem robotPollActsOnTheByteByItsPhase : Obligations.RobotPollActsOnTheByteByItsPhase := by
  refine ⟨decodeInvertsEncode .robotRxPoll rfl, fun s hrole hheld => ?_⟩
  have hexec {r : Option Byte} (hrx : s.ports.rx = r) :
      exec .robotRxPoll s = .next (robotReceive r s) :=
    hrx ▸ command_role_runs .robot s (robotReceive s.ports.rx) hrole hheld
  refine ⟨hexec, fun b t hrx ht => ?_⟩
  have htaken : s.takeByte.returns (pollResult (some b)) = t := ht.symm
  refine ⟨fun hrun hbit => ?left, fun hrun hbit => ?right, fun hwait heq => ?ack, fun hwait hne => ?discard⟩
  case left =>
    have hmotor : driveMotor b = .left := if_pos hbit
    rw [hexec hrx, robotReceive_running hrun, htaken, hmotor]
    rfl
  case right =>
    have hmotor : driveMotor b = .right := if_neg (ne_true_of_eq_false hbit)
    rw [hexec hrx, robotReceive_running hrun, htaken, hmotor]
    rfl
  case ack =>
    obtain rfl : b = msgCollision := heq
    rw [hexec hrx, robotReceive_ack hwait, htaken]
  case discard => rw [hexec hrx, robotReceive_discards hwait hne, htaken]

theorem remoteReceive_none : remoteReceive none s = s.returns 0 := by
  cases hl : s.rfsm <;> simp only [remoteReceive, hl, pollResult]

/-- Settles O30: the byte acts on the state that has taken it, by its value. -/
theorem remotePollDecodesTheFaultByte : Obligations.RemotePollDecodesTheFaultByte := by
  refine ⟨decodeInvertsEncode .remoteRxPoll rfl, fun s hrole hheld => ?_⟩
  have hexec : exec .remoteRxPoll s = .next (remoteReceive s.ports.rx s) :=
    command_role_runs .remote s (remoteReceive s.ports.rx) hrole hheld
  refine ⟨?nothing, fun b t hidle hrx ht => ?byte⟩
  case nothing =>
    rintro (hlatched | hnone)
    · rw [hexec, remoteReceive_latched hlatched]; rfl
    · rw [hexec, hnone, remoteReceive_none]; rfl
  case byte =>
    have hpoll : exec .remoteRxPoll s = .next ((remoteByte b s.takeByte).returns (pollResult (some b))) := by
      rw [hexec, hrx, remoteReceive_idle hidle]
    subst ht
    refine ⟨?clear, ?collision, ?obstacle, fun hclear hcollision hobstacle => ?other⟩
    case clear | collision | obstacle => rintro rfl; exact hpoll
    case other =>
      rw [hpoll, remoteByte_other ((msgOther_wf_iff b).2 ⟨hclear, hcollision, hobstacle⟩)]
      rfl

/-! ### CONFIRM_POLL -/

theorem confirmPollEffect_confirmed (hlatched : s.rfsm = .latched) (hconfirm : s.ports.confirm = true) :
    confirmPollEffect s =
      ({ s with disp := .clear, rfsm := .idle }.transmit msgCollision).returnsNothing := by
  simp only [confirmPollEffect, hlatched, hconfirm, if_true]

theorem confirmPollEffect_idle (hidle : s.rfsm = .idle) : confirmPollEffect s = s.returnsNothing := by
  simp only [confirmPollEffect, hidle]

theorem confirmPollEffect_unconfirmed (hconfirm : s.ports.confirm = false) :
    confirmPollEffect s = s.returnsNothing := by
  cases hl : s.rfsm <;> simp [confirmPollEffect, hl, hconfirm]

/-- Settles O31: the latch and the confirm level decide. -/
theorem confirmPollAcknowledgesOnce : Obligations.ConfirmPollAcknowledgesOnce := by
  refine ⟨decodeInvertsEncode .confirmPoll rfl, fun s hrole hheld => ?_⟩
  have hexec : exec .confirmPoll s = .next (confirmPollEffect s) :=
    command_role_runs .remote s confirmPollEffect hrole hheld
  refine ⟨fun hlatched hconfirm => ?acknowledges, fun hquiet => ?quiet⟩
  case acknowledges =>
    exact ⟨_, _, hexec.trans (congrArg _ (confirmPollEffect_confirmed hlatched hconfirm))⟩
  case quiet =>
    have hnothing := hquiet.elim confirmPollEffect_idle confirmPollEffect_unconfirmed
    exact ⟨_, _, hexec.trans (congrArg _ hnothing)⟩

/-! ### TX_ACCEPT -/

theorem txAcceptEffect_pending {b : Byte} (htxp : s.txp = some b) :
    txAcceptEffect s = { s.emit (.tx b) with txp := none } := by
  simp only [txAcceptEffect, htxp]

theorem exec_txAccept_pending {b : Byte} (htxp : s.txp = some b) :
    exec .txAccept s = .next { s.emit (.tx b) with txp := none } :=
  (eventWhen_next _ _ _ _).2 ⟨by rw [htxp]; rfl, (txAcceptEffect_pending htxp).symm⟩

/-- On a node that is built, tag 0x20 with a byte pending is a step that sends the byte. -/
theorem applyStimulus_txAccept_pending {env : Ports} {b : Byte} (htxp : s.txp = some b)
    (hbuilt : s.params.configRefusal = none) :
    ∃ t, applyStimulus { source := .evt, word := 0x20, ports := env } s = .next t := by
  have hdecode : decode (s.spaceOf .evt) 0x20 = .ok .txAccept := decodeInvertsEncode .txAccept rfl
  rw [applyStimulus_decoded ⟨.evt, 0x20, env⟩ s .txAccept hdecode,
    runInstr_built .txAccept (s.present _) hbuilt]
  exact ⟨_, exec_txAccept_pending htxp⟩

/-- A node's event that runs is a move of the two-node system. -/
theorem systemStep_event_runs {n : Role} {tag : Byte} {env : Ports} {S : TwoNodes} {t : State}
    (hrun : applyStimulus { source := .evt, word := tag, ports := env } (S.core n) = .next t) :
    systemStep (.event n tag env) S = .next (S.afterEvent n tag t) := by
  simp only [systemStep, hrun]

/-- Settles O32: at one node by the event's condition, and in the system by the byte that it sends. -/
theorem txAcceptMovesThePendingByteToTheHistory : Obligations.TxAcceptMovesThePendingByteToTheHistory := by
  refine ⟨decodeInvertsEncode .txAccept rfl, fun s => ⟨fun b => exec_txAccept_pending, ?disabled⟩, ?channel⟩
  case disabled =>
    intro hnone t h
    obtain ⟨hpending, -⟩ := (eventWhen_next _ _ _ _).1 h
    rw [hnone] at hpending
    cases hpending
  case channel =>
    intro n env S b htxp hbuilt
    obtain ⟨t, hrun⟩ := applyStimulus_txAccept_pending (env := env) htxp hbuilt
    refine ⟨S.afterEvent n 0x20 t, systemStep_event_runs hrun, ?_, S.afterEvent_inbox n t 0x20⟩
    rw [S.afterEvent_inbox_peer, sentByte_txAccept htxp]

end

end Sys2Proof.Machine
end

section
/-!
PROOFS. What an instruction may make of a robot (43_link.md R183-R193, 70_reset_and_hazards.md R268), said once for
all of them: from it, how the handshake ends, what stands still in it, and who writes the actuators.
-/
namespace Sys2Proof.Machine

/-! ### The fields that stand still -/

/-- From `s` to `t` the robot keeps its flags, its outputs and the history, and starts no range. TXP is a
REMOTE's as well, which may queue a byte. -/
structure State.SameRobot (s t : State) : Prop where
  params : t.params = s.params
  trig : t.trig = s.trig
  obs : t.obs = s.obs
  hs : t.hs = s.hs
  actL : t.actL = s.actL
  actR : t.actR = s.actR
  hist : t.hist = s.hist
  noRange : t.rngp = true → s.rngp = true
  txp : s.params.role = .robot → t.txp = s.txp

section
variable {s t : State}

theorem State.SameRobot.refl (s : State) : s.SameRobot s :=
  ⟨rfl, rfl, rfl, rfl, rfl, rfl, rfl, id, fun _ => rfl⟩

theorem State.SameRobot.returns (h : s.SameRobot t) (v : BitVec 64) : s.SameRobot (t.returns v) := { h with }

theorem State.SameRobot.returnsNothing (h : s.SameRobot t) : s.SameRobot t.returnsNothing := { h with }

theorem State.SameRobot.takeByte (h : s.SameRobot t) : s.SameRobot t.takeByte := { h with }

theorem returnsNothing_sameRobot (s : State) : s.SameRobot s.returnsNothing :=
  (State.SameRobot.refl s).returnsNothing

theorem setMc_sameRobot (s : State) (i : ClockId) (c : Clock) : s.SameRobot (s.setMc i c) := by
  cases i <;> exact { State.SameRobot.refl s with }

theorem echoSample_sameRobot (s : State) (level : Bool) : s.SameRobot (echoSample level s) := by
  unfold echoSample
  split <;> exact { State.SameRobot.refl s with }

theorem rangeSampleEffect_sameRobot (s : State) : s.SameRobot (rangeSampleEffect s) :=
  { State.SameRobot.refl s with noRange := nofun }

theorem encodeEffect_sameRobot (s : State) (mm : MotorSel) : s.SameRobot (encodeEffect mm s) :=
  { State.SameRobot.refl s with }

/-- A REMOTE may queue a byte. -/
theorem State.SameRobot.transmit (h : s.SameRobot t) (hremote : s.params.role = .remote) (b : Byte) :
    s.SameRobot (t.transmit b) :=
  { h with txp := Params.robot_of_remote hremote }

theorem sendDriveEffect_sameRobot (hremote : s.params.role = .remote) (mm : MotorSel) :
    s.SameRobot (sendDriveEffect mm s) := by
  cases hl : s.rfsm
  case latched => rw [sendDriveEffect_latched hl]; exact returnsNothing_sameRobot s
  case idle => rw [sendDriveEffect_idle hl]; exact (encodeEffect_sameRobot s mm).transmit hremote _

theorem remoteByte_sameRobot (s : State) (b : Byte) : s.SameRobot (remoteByte b s) := by
  unfold remoteByte
  (repeat' split) <;> exact { State.SameRobot.refl s with }

theorem remoteReceive_sameRobot (s : State) (r : Option Byte) : s.SameRobot (remoteReceive r s) := by
  cases hl : s.rfsm
  case latched => rw [remoteReceive_latched hl]; exact (State.SameRobot.refl s).returns _
  case idle =>
    cases r
    case none => rw [remoteReceive_none]; exact (State.SameRobot.refl s).returns _
    case some b =>
      rw [remoteReceive_idle hl]
      exact { remoteByte_sameRobot s.takeByte b with }

theorem confirmPollEffect_sameRobot (hremote : s.params.role = .remote) :
    s.SameRobot (confirmPollEffect s) := by
  unfold confirmPollEffect
  (repeat' split) <;> exact { State.SameRobot.refl s with txp := Params.robot_of_remote hremote }

end

/-! ### The changes -/

/-- The instruction has the robot poll its link with the outcome `r` (log 5). -/
def RobotPolls (s : State) (r : Option Byte) (i : Instr) : Prop :=
  i = .robotRxPoll ∧ r = s.ports.rx ∨ i = .ack1 ∧ r = some 0x31 ∨
    ∃ m f g, i = .driveByte m f g ∧ r = some (driveByteCode m f g)

/-- The next states that an instruction may give the robot, where its flags, outputs or history change:
one constructor for each way. -/
inductive RobotChange (s : State) : (instr : Instr) → (t : State) → Prop where
  | kept {t : State} (instr : Instr) (h : s.SameRobot t) : RobotChange s instr t
  | pulse (hrun : s.hs = .running) : RobotChange s .range (triggerPulse s).returnsNothing
  | obstacle (hrun : s.hs = .running) (htxp : s.txp = none) (hobs : s.obs = false) :
      RobotChange s .faultEval ({ s with obs := true }.transmit msgObstacle).returnsNothing
  | clear (hrun : s.hs = .running) (htxp : s.txp = none) (hobs : s.obs = true) :
      RobotChange s .faultEval ({ s with obs := false }.transmit msgClear).returnsNothing
  | collision (hrun : s.hs = .running) (htxp : s.txp = none) :
      RobotChange s .collEval (enterHandshake s).returnsNothing
  | drive {instr : Instr} {b : Byte} (hrun : s.hs = .running) (hpoll : RobotPolls s (some b) instr) :
      RobotChange s instr
        ((s.takeByte.returns (pollResult (some b))).setAct (driveMotor b) (driveActuator b))
  | ack {instr : Instr} (hwait : s.hs = .awaitingAck) (hpoll : RobotPolls s (some msgCollision) instr) :
      RobotChange s instr { s.takeByte.returns (pollResult (some msgCollision)) with hs := .running }
  | sent {b : Byte} (htxp : s.txp = some b) :
      RobotChange s .txAccept { s.emit (.tx b) with txp := none }
  | reset : RobotChange s .reset (resetEffect s)

section
variable {s : State}

theorem returnsNothing_robotChange (i : Instr) : RobotChange s i s.returnsNothing :=
  .kept i (returnsNothing_sameRobot s)

theorem rangeEffect_robotChange : RobotChange s .range (rangeEffect s) := by
  cases hs : s.hs
  case running => rw [rangeEffect_running hs]; exact .pulse hs
  case awaitingAck => rw [rangeEffect_awaitingAck hs]; exact returnsNothing_robotChange _

theorem faultEvalEffect_robotChange (htxp : s.txp = none) :
    RobotChange s .faultEval (faultEvalEffect s) := by
  cases hs : s.hs
  case awaitingAck => rw [faultEvalEffect_awaitingAck hs]; exact returnsNothing_robotChange _
  case running =>
    by_cases hsteady : belowLimit s.params s.opdD = s.obs
    case pos => rw [faultEvalEffect_steady hs hsteady]; exact returnsNothing_robotChange _
    case neg =>
      cases hobs : s.obs <;> rw [hobs] at hsteady
      case false =>
        rw [faultEvalEffect_obstacle hs (eq_true_of_ne_false hsteady) hobs]
        exact .obstacle hs htxp hobs
      case true =>
        rw [faultEvalEffect_clear hs (eq_false_of_ne_true hsteady) hobs]
        exact .clear hs htxp hobs

theorem collEvalEffect_robotChange (htxp : s.txp = none) : RobotChange s .collEval (collEvalEffect s) := by
  cases hs : s.hs
  case awaitingAck => rw [collEvalEffect_awaitingAck hs]; exact returnsNothing_robotChange _
  case running =>
    cases hhit : collides s.params s.opdAx s.opdAy s.opdAz
    case false => rw [collEvalEffect_noHit hhit]; exact returnsNothing_robotChange _
    case true => rw [collEvalEffect_hit hs hhit]; exact .collision hs htxp

theorem robotReceive_robotChange {i : Instr} {r : Option Byte} (hpoll : RobotPolls s r i) :
    RobotChange s i (robotReceive r s) := by
  cases r
  case none => exact .kept i ((State.SameRobot.refl s).returns _)
  case some b =>
    cases hs : s.hs
    case running => rw [robotReceive_running hs]; exact .drive hs hpoll
    case awaitingAck =>
      by_cases hack : b = msgCollision
      case pos => subst hack; rw [robotReceive_ack hs]; exact .ack hs hpoll
      case neg =>
        rw [robotReceive_discards hs hack]
        exact .kept i ((State.SameRobot.refl s).takeByte.returns _)

theorem exec_robotChange {i : Instr} {t : State} (h : exec i s = .next t) : RobotChange s i t := by
  rcases exec_cases h with ⟨c, -, -, rfl⟩ | ⟨c, -, -, rfl⟩ | ⟨c, -, -, rfl⟩ | ⟨c, -, -, rfl⟩ |
    ⟨rfl, -, -, rfl⟩ | ⟨mm, -, -, -, rfl⟩ | ⟨mm, -, hremote, -, rfl⟩ | ⟨rfl, -, hheld, rfl⟩ |
    ⟨rfl, -, hheld, rfl⟩ | ⟨r, hpoll, -, -, rfl⟩ | ⟨r, -, -, -, rfl⟩ | ⟨-, hremote, -, rfl⟩ |
    ⟨c, -, rfl⟩ | ⟨level, -, rfl⟩ | ⟨b, rfl, htxp, rfl⟩ | ⟨-, -, rfl⟩ | ⟨rfl, -, rfl⟩
  · exact .kept i (setMc_sameRobot s c _).returnsNothing
  · exact .kept i (setMc_sameRobot s c _).returnsNothing
  · exact .kept i (setMc_sameRobot s c _).returnsNothing
  · exact .kept i ((State.SameRobot.refl s).returns _)
  · exact rangeEffect_robotChange
  · exact .kept i (encodeEffect_sameRobot s mm)
  · exact .kept i (sendDriveEffect_sameRobot hremote mm)
  · exact faultEvalEffect_robotChange (txp_none_of_not_held hheld)
  · exact collEvalEffect_robotChange (txp_none_of_not_held hheld)
  · exact robotReceive_robotChange hpoll
  · exact .kept i (remoteReceive_sameRobot s r)
  · exact .kept i (confirmPollEffect_sameRobot hremote)
  · exact .kept i (setMc_sameRobot s c _)
  · exact .kept i (echoSample_sameRobot s level)
  · rw [txAcceptEffect_pending htxp]; exact .sent htxp
  · exact .kept i (rangeSampleEffect_sameRobot s)
  · exact .reset

end

/-! ### The handshake -/

theorem RobotPolls.ack {s : State} {i : Instr} (h : RobotPolls s (some msgCollision) i) :
    (i = .robotRxPoll ∧ s.ports.rx = some 0x31) ∨ i = .ack1 ∨
      ∃ m f g, i = .driveByte m f g ∧ driveByteCode m f g = 0x31 := by
  rcases h with ⟨hi, hrx⟩ | ⟨hi, -⟩ | ⟨m, f, g, hi, hcode⟩
  · exact .inl ⟨hi, hrx.symm⟩
  · exact .inr (.inl hi)
  · exact .inr (.inr ⟨m, f, g, hi, (Option.some.inj hcode).symm⟩)

/-- Settles O35: of the changes from the wait, only the acknowledgement and reset end in Running. -/
theorem handshakeEndsOnlyByAckOrReset : Obligations.HandshakeEndsOnlyByAckOrReset := by
  intro i s t h hwait hends
  cases exec_robotChange h
  case kept hsame => cases (hends.symm.trans hsame.hs).trans hwait
  case pulse hrun | obstacle hrun _ _ | clear hrun _ _ | collision hrun _ | drive hrun _ =>
    cases hwait.symm.trans hrun
  case ack _ hpoll => exact .inr ⟨rfl, rfl, hpoll.ack⟩
  case sent => cases hwait.symm.trans hends
  case reset => exact .inl rfl

theorem ne_trigPulse_of_hist_eq {s t : State} (h : t.hist = s.hist) (e : OutEvent)
    (happend : t.hist = s.hist ++ [e]) : e ≠ .trigPulse := by
  rw [h] at happend
  exact absurd (List.self_eq_append_right.mp happend) (List.cons_ne_nil _ _)

/-- Settles O36: from the wait there is neither a pulse nor a message nor a drive. -/
theorem outputsStandStillDuringTheHandshake : Obligations.OutputsStandStillDuringTheHandshake := by
  intro i s t h hrobot hwait hreset
  cases exec_robotChange h
  case kept hsame =>
    exact ⟨hsame.actL, hsame.actR, hsame.trig, hsame.noRange, .inl (hsame.txp hrobot),
      ne_trigPulse_of_hist_eq hsame.hist⟩
  case pulse hrun | obstacle hrun _ _ | clear hrun _ _ | collision hrun _ | drive hrun _ =>
    cases hwait.symm.trans hrun
  case ack => exact ⟨rfl, rfl, rfl, id, .inl rfl, ne_trigPulse_of_hist_eq rfl⟩
  case sent b _ =>
    refine ⟨rfl, rfl, rfl, id, .inr rfl, fun e happend => ?_⟩
    obtain rfl : .tx b = e := List.singleton_inj.mp (List.append_cancel_left happend)
    exact nofun
  case reset => exact absurd rfl hreset

/-! ### The actuators -/

theorem RobotPolls.instr {s : State} {r : Option Byte} {i : Instr} (h : RobotPolls s r i) :
    i = .robotRxPoll ∨ i = .ack1 ∨ ∃ m f g, i = .driveByte m f g :=
  h.imp And.left (Or.imp And.left fun ⟨m, f, g, hi, _⟩ => ⟨m, f, g, hi⟩)

/-- A drive byte is for one motor (43_link.md R187). -/
theorem setAct_keeps_one (s : State) (m : Motor) (a : Actuator) :
    (s.setAct m a).actL = s.actL ∨ (s.setAct m a).actR = s.actR := by
  cases m
  case left => exact .inr rfl
  case right => exact .inl rfl

/-- Settles O37: only the entry into the handshake, a drive and reset write an actuator. -/
theorem onlyCollisionDriveByteAndResetWriteTheActuators :
    Obligations.OnlyCollisionDriveByteAndResetWriteTheActuators := by
  intro i s t h hchange
  have hmoved (hL : t.actL = s.actL) (hR : t.actR = s.actR) : False :=
    hchange.elim (· hL) (· hR)
  cases exec_robotChange h
  case kept hsame => exact (hmoved hsame.actL hsame.actR).elim
  case pulse | obstacle | clear | ack | sent => exact (hmoved rfl rfl).elim
  case collision => exact .inr (.inl ⟨rfl, rfl, rfl, rfl⟩)
  case drive hrun hpoll =>
    exact .inr (.inr ⟨hrun, State.setAct_rxTake _ _ _, setAct_keeps_one _ _ _, hpoll.instr⟩)
  case reset => exact .inl rfl

end Sys2Proof.Machine
end

section
/-!
PROOFS. The edge-trigger law (43_link.md R184): how the distance messages grow, and that every change of a robot
sends the message that is due or none.
-/
namespace Sys2Proof.Machine

/-! ### Alternation -/

/-- The distance message that is due after `n` of them: '2' first (43_link.md R184). -/
def dueMsg (n : Nat) : Byte := if n % 2 = 0 then msgObstacle else msgClear

theorem dueMsg_even {n : Nat} (h : n % 2 = 0) : dueMsg n = msgObstacle := if_pos h

theorem dueMsg_odd {n : Nat} (h : n % 2 = 1) : dueMsg n = msgClear := if_neg (by omega)

theorem dueMsg_succ (n : Nat) :
    dueMsg (n + 1) = if dueMsg n = msgObstacle then msgClear else msgObstacle := by
  rcases Nat.mod_two_eq_zero_or_one n with h | h
  · rw [dueMsg_even h, dueMsg_odd (by omega), if_pos rfl]
  · rw [dueMsg_odd h, dueMsg_even (by omega), if_neg (by decide)]

/-- Sending the message that is due keeps the alternation. -/
theorem alternatesFrom_append_due (l : List Byte) (k : Nat) (h : alternatesFrom (dueMsg k) l = true) :
    alternatesFrom (dueMsg k) (l ++ [dueMsg (k + l.length)]) = true := by
  induction l generalizing k
  case nil => simp [alternatesFrom]
  case cons b bs ih =>
    simp only [alternatesFrom, Bool.and_eq_true, ← dueMsg_succ] at h
    obtain ⟨hb, hbs⟩ := h
    have hlength : k + (b :: bs).length = k + 1 + bs.length := by rw [List.length_cons]; omega
    simp only [List.cons_append, alternatesFrom, Bool.and_eq_true, ← dueMsg_succ, hlength]
    exact ⟨hb, ih (k + 1) hbs⟩

/-! ### The distance messages of a state -/

theorem distanceMsgs_append (g h : List OutEvent) :
    distanceMsgs (g ++ h) = distanceMsgs g ++ distanceMsgs h := by
  induction g
  case nil => rfl
  case cons e g ih =>
    cases e
    case trigPulse => exact ih
    case tx b =>
      simp only [List.cons_append, distanceMsgs, ih]
      split <;> rfl

/-- A byte counts as the same distance message before and after the transmitter takes it. -/
theorem distanceMsgs_tx (b : Byte) : distanceMsgs [.tx b] = [b].filter isDistanceMsg := by
  cases hb : isDistanceMsg b <;> simp [distanceMsgs, hb]

section
variable {s t : State}

theorem State.distanceMessages_eq (hhist : t.hist = s.hist) (htxp : t.txp = s.txp) :
    t.distanceMessages = s.distanceMessages := by
  rw [State.distanceMessages, hhist, htxp, State.distanceMessages]

theorem State.distanceMessages_pulse (hhist : t.hist = s.hist ++ [.trigPulse]) (htxp : t.txp = s.txp) :
    t.distanceMessages = s.distanceMessages := by
  rw [State.distanceMessages, hhist, htxp, distanceMsgs_append, distanceMsgs, distanceMsgs, List.append_nil,
    State.distanceMessages]

theorem State.distanceMessages_sent {b : Byte} (htxp : s.txp = some b)
    (hhist : t.hist = s.hist ++ [.tx b]) (hnone : t.txp = none) :
    t.distanceMessages = s.distanceMessages := by
  rw [State.distanceMessages, State.distanceMessages, hhist, hnone, htxp, distanceMsgs_append,
    distanceMsgs_tx]
  exact List.append_nil _

theorem State.distanceMessages_queued {b : Byte} (hnone : s.txp = none) (hhist : t.hist = s.hist)
    (htxp : t.txp = some b) :
    t.distanceMessages = s.distanceMessages ++ [b].filter isDistanceMsg := by
  rw [State.distanceMessages, State.distanceMessages, hhist, hnone, htxp]
  exact congrArg (· ++ _) (List.append_nil _).symm

/-! ### The law -/

theorem State.edgeTriggered.kept (h : s.edgeTriggered) (hparams : t.params = s.params)
    (hobs : t.obs = s.obs) (hmsgs : s.params.role = .robot → t.distanceMessages = s.distanceMessages) :
    t.edgeTriggered := by
  intro hrobot
  rw [hparams] at hrobot
  rw [hobs, hmsgs hrobot]
  exact h hrobot

/-- The message that the law makes due is the one that tells the new OBS. -/
theorem State.edgeTriggered.signalled (h : s.edgeTriggered) (hparams : t.params = s.params)
    (hobs : t.obs = !s.obs)
    (hmsgs : t.distanceMessages = s.distanceMessages ++ [if s.obs then msgClear else msgObstacle]) :
    t.edgeTriggered := by
  intro hrobot
  obtain ⟨halternates, hlast⟩ := h (hparams ▸ hrobot)
  have hdue : (if s.obs then msgClear else msgObstacle) = dueMsg (0 + s.distanceMessages.length) := by
    rw [Nat.zero_add]
    cases hs : s.obs <;> rw [hs] at hlast
    case true => exact (dueMsg_odd (hlast.mp rfl)).symm
    case false =>
      have heven : s.distanceMessages.length % 2 ≠ 1 := fun hodd => Bool.false_ne_true (hlast.mpr hodd)
      exact (dueMsg_even (by omega)).symm
  rw [hmsgs, hdue, hobs, List.length_append, List.length_singleton, Bool.not_eq_true', ← Bool.not_eq_true,
    hlast]
  exact ⟨alternatesFrom_append_due _ 0 halternates, by omega⟩

/-- Settles O40: no byte is pending and the history is empty. -/
theorem edgeTriggerLawHoldsAfterReset : Obligations.EdgeTriggerLawHoldsAfterReset :=
  fun _ _ => ⟨rfl, nofun, nofun⟩

theorem RobotChange.edgeTriggered {i : Instr} (hchange : RobotChange s i t) (h : s.edgeTriggered) :
    t.edgeTriggered := by
  cases hchange
  case kept hsame =>
    exact h.kept hsame.params hsame.obs fun hrobot =>
      State.distanceMessages_eq hsame.hist (hsame.txp hrobot)
  case pulse => exact h.kept rfl rfl fun _ => State.distanceMessages_pulse rfl rfl
  case obstacle htxp hobs =>
    refine h.signalled rfl (by rw [hobs]; rfl) (Eq.trans (State.distanceMessages_queued htxp rfl rfl) ?_)
    rw [hobs]
    rfl
  case clear htxp hobs =>
    refine h.signalled rfl (by rw [hobs]; rfl) (Eq.trans (State.distanceMessages_queued htxp rfl rfl) ?_)
    rw [hobs]
    rfl
  case collision htxp =>
    exact h.kept rfl rfl fun _ =>
      Eq.trans (State.distanceMessages_queued htxp rfl rfl) (List.append_nil _)
  case drive =>
    exact h.kept (State.setAct_params _ _ _) (State.setAct_obs _ _ _) fun _ =>
      State.distanceMessages_eq (State.setAct_hist _ _ _) (State.setAct_txp _ _ _)
  case ack => exact h.kept rfl rfl fun _ => State.distanceMessages_eq rfl rfl
  case sent htxp => exact h.kept rfl rfl fun _ => State.distanceMessages_sent htxp rfl rfl
  case reset => exact edgeTriggerLawHoldsAfterReset s.params

end

/-- Settles O39: the step runs an instruction, and what precedes it writes no field of the law. -/
theorem everyStepKeepsTheEdgeTriggerLaw : Obligations.EveryStepKeepsTheEdgeTriggerLaw := by
  intro s t h hstep
  obtain ⟨i, hexec⟩ := step_next s t hstep
  have htaken : s.afterTake.edgeTriggered := by rw [afterTake_eq]; exact h
  have hpresented : (s.afterTake.present s.nextStimulus).edgeTriggered := htaken
  exact (exec_robotChange hexec).edgeTriggered hpresented

end Sys2Proof.Machine
end

section
/-!
PROOFS. The latched remote (43_link.md R194) and the controllers' programs (43_link.md R195-R197).
-/
namespace Sys2Proof.Machine

/-! ### The latched remote -/

/-- While latched, CONFIRM_POLL queues the acknowledgement or nothing (43_link.md R191). -/
theorem confirmPollEffect_txp_latched {s : State} (hlatched : s.rfsm = .latched) :
    (confirmPollEffect s).txp = s.txp ∨
      ((confirmPollEffect s).txp = some msgCollision ∧ s.ports.confirm = true) := by
  cases hconfirm : s.ports.confirm
  case false => rw [confirmPollEffect_unconfirmed hconfirm]; exact .inl rfl
  case true => rw [confirmPollEffect_confirmed hlatched hconfirm]; exact .inr ⟨rfl, rfl⟩

/-- Settles O38: a latched SEND_DRIVE and a latched poll queue nothing. -/
theorem latchedRemoteSendsOnlyTheAcknowledgement :
    Obligations.LatchedRemoteSendsOnlyTheAcknowledgement := by
  intro i s t h hremote hlatched hne
  rcases exec_cases h with ⟨c, -, -, rfl⟩ | ⟨c, -, -, rfl⟩ | ⟨c, -, -, rfl⟩ | ⟨c, -, -, rfl⟩ |
    ⟨-, hrobot, -, -⟩ | ⟨mm, -, -, -, rfl⟩ | ⟨mm, -, -, -, rfl⟩ | ⟨-, hrobot, -, -⟩ | ⟨-, hrobot, -, -⟩ |
    ⟨r, -, hrobot, -, -⟩ | ⟨r, -, -, -, rfl⟩ | ⟨hi, -, -, rfl⟩ | ⟨c, -, rfl⟩ | ⟨level, -, rfl⟩ |
    ⟨b, -, htxp, rfl⟩ | ⟨-, -, rfl⟩ | ⟨-, -, rfl⟩
  · exact absurd (s.setMc_txp c _) hne
  · exact absurd (s.setMc_txp c _) hne
  · exact absurd (s.setMc_txp c _) hne
  · exact absurd (s.returns_txp _) hne
  · exact Params.robot_of_remote hremote hrobot
  · exact absurd rfl hne
  · rw [sendDriveEffect_latched hlatched] at hne
    exact absurd rfl hne
  · exact Params.robot_of_remote hremote hrobot
  · exact Params.robot_of_remote hremote hrobot
  · exact Params.robot_of_remote hremote hrobot
  · rw [remoteReceive_latched hlatched] at hne
    exact absurd rfl hne
  · obtain ⟨hack, hconfirm⟩ := (confirmPollEffect_txp_latched hlatched).resolve_left hne
    exact .inr ⟨hack, hi, hconfirm⟩
  · exact absurd (s.setMc_txp c _) hne
  · rw [echoSample_remote hremote] at hne
    exact absurd rfl hne
  · rw [txAcceptEffect_pending htxp]
    exact .inl rfl
  · exact absurd rfl hne
  · exact .inl rfl

/-! ### Issuing a command -/

/-- A command that a controller issues and that completes has run under the levels given. -/
theorem applyStimulus_issue_next {c : Instr} {ports : Ports} {s t : State} (hwf : c.wf = true)
    (hcmd : (encode c).1 = .cmd) (h : applyStimulus (issueStimulus c ports) s = .next t) :
    exec c { s with ports := ports, rxTake := false } = .next t := by
  obtain ⟨i, hdecode, hexec⟩ := applyStimulus_next _ _ _ h
  have hword : decode .cmd (encode c).2 = .ok c := hcmd ▸ decodeInvertsEncode c hwf
  obtain rfl : c = i := Except.ok.inj (hword.symm.trans hdecode)
  exact hexec

/-! ### ROBOT_TICK -/

section
variable {n n' : RobotNode} {env : Ports}

theorem robotNodeStep_issue_next (h : robotNodeStep (.issue env) n = .next n') :
    exec (robotCommand n.place) { n.core with ports := robotPorts n.place n.core env, rxTake := false }
      = .next n'.core ∧ n'.place = robotNext n.place n'.core := by
  simp only [robotNodeStep] at h
  split at h
  case h_1 t ht =>
    obtain rfl := Host.Outcome.next.inj h
    exact ⟨applyStimulus_issue_next (by cases n.place <;> rfl) (by cases n.place <;> rfl) ht, rfl⟩
  case h_2 | h_3 => cases h

end

theorem robotNext_collEval (t : State) :
    robotNext .collEval t = if t.hs = .awaitingAck then .awaitAck else .range := by
  cases hs : t.hs <;> simp [robotNext, hs]

theorem robotNext_awaitAck (t : State) :
    robotNext .awaitAck t = if t.hs = .awaitingAck then .awaitAck else .collEval := by
  cases hs : t.hs <;> simp [robotNext, hs]

/-- Settles O58, place by place. -/
theorem robotTickFollowsItsProgram : Obligations.RobotTickFollowsItsProgram := by
  intro n n' env h
  obtain ⟨hexec, hplace⟩ := robotNodeStep_issue_next h
  obtain ⟨core, place⟩ := n
  cases place
  case collEval => exact ⟨hexec, hplace.trans (robotNext_collEval _)⟩
  case awaitAck => exact ⟨hexec, hplace.trans (robotNext_awaitAck _)⟩
  case range | faultEval | drainRx => exact ⟨hexec, hplace⟩

/-! ### REMOTE_TICK -/

section
variable {n n' : RemoteNode} {env : Ports}

theorem remoteNodeStep_issue_next (h : remoteNodeStep (.issue env) n = .next n') :
    exec (remoteCommand n.place) { n.core with ports := tickSamples n env, rxTake := false }
      = .next n'.core ∧ n'.place = remoteNext n.place n'.core ∧
      n'.sampleX = (tickSamples n env).opdX ∧ n'.sampleY = (tickSamples n env).opdY := by
  simp only [remoteNodeStep] at h
  split at h
  case h_1 t ht =>
    obtain rfl := Host.Outcome.next.inj h
    exact ⟨applyStimulus_issue_next (by cases n.place <;> rfl) (by cases n.place <;> rfl) ht, rfl, rfl, rfl⟩
  case h_2 | h_3 => cases h

end

theorem remoteNext_rxPoll (t : State) :
    remoteNext .rxPoll t = if t.rfsm = .latched then .awaitConfirm else .sendLeft := by
  cases hl : t.rfsm <;> simp [remoteNext, hl]

theorem remoteNext_awaitConfirm (t : State) :
    remoteNext .awaitConfirm t = if t.rfsm = .latched then .awaitConfirm else .sendLeft := by
  cases hl : t.rfsm <;> simp [remoteNext, hl]

/-- Settles O59, place by place. -/
theorem remoteTickFollowsItsProgram : Obligations.RemoteTickFollowsItsProgram := by
  intro n n' env h
  obtain ⟨hexec, hplace, hx, hy⟩ := remoteNodeStep_issue_next h
  obtain ⟨core, place, sampleX, sampleY⟩ := n
  cases place
  case sendLeft => exact ⟨hexec, hplace, hx, hy⟩
  case sendRight => exact ⟨hexec, hplace⟩
  case rxPoll => exact ⟨hexec, hplace.trans (remoteNext_rxPoll _)⟩
  case awaitConfirm => exact ⟨hexec, hplace.trans (remoteNext_awaitConfirm _)⟩

end Sys2Proof.Machine
end

section
/-!
PROOFS. ConfigError (60_exceptions.md R221, R223): the instruction that raises it, and what its reason says of the
constants.
-/
namespace Sys2Proof.Machine

/-! ### The recorded reason -/

/-- The axis breaks the condition of 42_encoder.md R141 that the reason names. -/
def AxisBreaks (a : AxisParams) : ConfigReason → Prop
  | .extEqCentre => a.posExt = a.zero ∨ a.negExt = a.zero
  | .zeroRange =>
    |(a.posExt.toNat : Int) - a.zero.toNat| = 1 ∨ |(a.negExt.toNat : Int) - a.zero.toNat| = 1
  | .sameSide => 0 < ((a.posExt.toNat : Int) - a.zero.toNat) * ((a.negExt.toNat : Int) - a.zero.toNat)

theorem toNat_sub_ne_zero {z e : Byte} (h : e ≠ z) : (e.toNat : Int) - z.toNat ≠ 0 := by
  bv_omega

/-- An extreme off the centre but nearer than two steps is one step away. -/
theorem abs_sub_eq_one_of_absDiff_lt_two {z e : Byte} (hne : e ≠ z) (h : absDiff e.toNat z.toNat < 2) :
    |(e.toNat : Int) - z.toNat| = 1 := by
  have hpos := abs_pos.mpr (toNat_sub_ne_zero hne)
  rw [← natCast_absDiff] at hpos ⊢
  omega

/-- The checks before the one that fails have passed, so its test is the condition itself: with both extremes
off the centre a distance below 2 is 1, and a product that is not negative is positive. -/
theorem axisBreaks_of_checkAxis {a : AxisParams} {r : ConfigReason} (h : checkAxis a = some r) :
    AxisBreaks a r := by
  unfold checkAxis at h
  split_ifs at h with hcentre hnear hside <;> obtain rfl := Option.some.inj h
  · exact hcentre
  · obtain ⟨hpos, hneg⟩ := not_or.mp hcentre
    exact hnear.imp (abs_sub_eq_one_of_absDiff_lt_two hpos) (abs_sub_eq_one_of_absDiff_lt_two hneg)
  · obtain ⟨hpos, hneg⟩ := not_or.mp hcentre
    exact hside.lt_of_ne' (mul_ne_zero (toNat_sub_ne_zero hpos) (toNat_sub_ne_zero hneg))

theorem exists_checkAxis_of_checkCalibration {p : Params} {r : ConfigReason}
    (h : checkCalibration p = some r) : ∃ a ∈ [p.x, p.y], checkAxis a = some r := by
  unfold checkCalibration at h
  split at h
  case h_1 hx => exact ⟨p.x, by simp, hx.trans h⟩
  case h_2 => exact ⟨p.y, by simp, h⟩

/-- Once R141's checks pass, the records give no error. -/
theorem calibrate_eq_error_iff {p : Params} {r : ConfigReason} :
    calibrate p = .error r ↔ checkCalibration p = some r := by
  cases hcheck : checkCalibration p with
  | none => simp [calibrate_legal hcheck]
  | some q => simp [calibrate, hcheck]

/-! ### The instruction that faults -/

section
variable {s : State} {f : Fault}

theorem execReset_fault :
    execReset s = .fault f ↔
      s.params.role = .remote ∧ ∃ r, f = .configError r ∧ calibrate s.params = .error r := by
  unfold execReset
  cases s.params.role
  case robot => simp
  case remote => cases calibrate s.params <;> simp [raiseConfigError, eq_comm]

theorem exec_not_fault_of_ne_reset {i : Instr} (hi : i ≠ .reset) : exec i s ≠ .fault f := by
  cases i
  case reset => exact absurd rfl hi
  case tick0 | tick1 | echoFall | echoRise => exact nofun
  case txAccept | rangeSample => exact eventWhen_not_fault _ _ _ _
  all_goals exact command_not_fault _ _ _ _

end

/-- Settles O45: commands and the other events never fault, and RESET only as its calibration does. -/
theorem onlyAnIllegalConfigurationFaults : Obligations.OnlyAnIllegalConfigurationFaults := by
  intro i s f h
  obtain rfl : i = .reset := by_contra fun hi => exec_not_fault_of_ne_reset hi h
  exact ⟨rfl, execReset_fault.mp h⟩

/-- Settles O15: the reason is the first check that fails on one of the axes, and that axis breaks it. -/
theorem configErrorReasonIsABrokenCondition : Obligations.ConfigErrorReasonIsABrokenCondition := by
  intro s r h
  obtain ⟨hremote, q, hq, herror⟩ := execReset_fault.mp h
  obtain rfl := Fault.configError.inj hq
  obtain ⟨a, hmem, haxis⟩ := exists_checkAxis_of_checkCalibration (calibrate_eq_error_iff.mp herror)
  have hbreaks := axisBreaks_of_checkAxis haxis
  refine ⟨hremote, a, hmem, ?_⟩
  cases r <;> exact hbreaks

end Sys2Proof.Machine
end

section
/-!
PROOFS. Reset and the hold (70_reset_and_hazards.md R250, R251, R260): what every command word's instruction
does is `command` under the role it belongs to, and what RESET leaves in the block and in the channels.
-/
namespace Sys2Proof.Machine

/-! ### The invariant after reset -/

/-- Settles O57, from the invariant of the reset state. -/
theorem theInvariantHoldsAfterResetOfALegalInstance :
    Obligations.TheInvariantHoldsAfterResetOfALegalInstance :=
  fun _ hlegal => State.resetOf_inv hlegal

/-! ### Commands during a hold -/

theorem held_eq_true_iff (s : State) : s.held = true ↔ s.txp.isSome = true ∨ s.rngp = true :=
  Bool.or_eq_true_iff

theorem exec_eq_command {i : Instr} (hcmd : (encode i).1 = .cmd) (s : State) :
    ∃ effect, exec i s = command (instrRole i) s effect := by
  cases i
  case tick0 | tick1 | echoFall | echoRise | txAccept | rangeSample | reset => cases hcmd
  case driveByte | ack1 | msgClear0 | msgCollision1 | msgObstacle2 | msgOther => cases hcmd
  all_goals exact ⟨_, rfl⟩

/-- A hold refuses a command once its role does not. -/
theorem command_held {need : Option Role} {s : State} (effect : State → State)
    (hrole : need = none ∨ need = some s.params.role) (hheld : s.held = true) :
    command need s effect = .refused .commandDuringHold := by
  obtain rfl | rfl := hrole
  · simp only [command, issueRefusal, if_pos hheld]
  · simp only [command, issueRefusal, if_true, if_pos hheld]

/-- Settles O41: a command's own issue test refuses it. -/
theorem commandDuringAHoldIsRefused : Obligations.CommandDuringAHoldIsRefused := by
  intro i s hcmd hrole hhold
  obtain ⟨effect, heffect⟩ := exec_eq_command hcmd s
  rw [heffect]
  exact command_held effect hrole ((held_eq_true_iff s).mpr hhold)

/-! ### RESET -/

theorem calibrate_eq_ok_resetCal {p : Params} (h : checkCalibration p = none) :
    calibrate p = .ok (resetCal p) := by
  rw [resetCal_legal h, calibrate_legal h]

theorem execReset_eq_next {s : State} (h : s.params.role = .robot ∨ checkCalibration s.params = none) :
    execReset s = .next (resetEffect s) := by
  refine (execReset_next s _).mpr ⟨fun hremote => ?calibrates, rfl⟩
  obtain hrobot | hlegal := h
  · exact Params.robot_of_remote hremote hrobot
  · exact ⟨_, calibrate_legal hlegal⟩

theorem eq_or_eq_peer (k n : Role) : k = n ∨ k = peer n := by
  cases k <;> cases n <;> decide

/-- An event other than TX_ACCEPT puts nothing on either line. -/
theorem TwoNodes.afterEvent_inbox_of_ne_txAccept (S : TwoNodes) (n k : Role) {tag : Byte} (t : State)
    (htag : tag ≠ 0x20) : (S.afterEvent n tag t).inbox k = S.inbox k := by
  obtain rfl | rfl := eq_or_eq_peer k n
  · exact S.afterEvent_inbox k t tag
  · rw [S.afterEvent_inbox_peer, sentByte_other htag, List.append_nil]

/-- Settles O44: `resetEffect` is the state that the rule lists, with `resetCal` as its calibration file. -/
theorem resetLeavesTheStateOfR250 : Obligations.ResetLeavesTheStateOfR250 := by
  refine ⟨rfl, fun n env S T h => ?channels, fun s hbuilt => ?fields⟩
  case channels =>
    obtain ⟨t, -, rfl⟩ := systemStep_event_next h
    have hkept (k : Role) : (S.afterEvent n 0xFF t).inbox k = S.inbox k :=
      S.afterEvent_inbox_of_ne_txAccept n k t (by decide)
    exact ⟨hkept .robot, hkept .remote⟩
  case fields =>
    exact ⟨resetCal s.params, 0, false, calibrate_eq_ok_resetCal, execReset_eq_next hbuilt⟩

end Sys2Proof.Machine
end
